-- ==== Sys2Proof/Word.lean ====
section
/-! DEFINITION. The word types of the FCB (00_scope.md R8) and the 8-byte frame (30_encoding.md R70). -/

namespace Sys2Proof

/-- `u8`: a data byte, a frame byte, a frame opcode. -/
abbrev Byte := BitVec 8

/-- `u16`: the 16-bit parameter of a frame, the compared half of a chip identity. -/
abbrev Half := BitVec 16

/-- `u24`: the address of a flash bus cycle (R76). -/
abbrev Addr24 := BitVec 24

/-- `u32`: the width of every host-visible register (10_state.md R23 to R32). -/
abbrev Word := BitVec 32

/-- A frame: "exactly 8 bytes", `f0` the first byte handed to the transport (R70). -/
structure Frame where
  f0 : Byte
  f1 : Byte
  f2 : Byte
  f3 : Byte
  f4 : Byte
  f5 : Byte
  f6 : Byte
  f7 : Byte
deriving DecidableEq, Repr

/-- The four bytes of a read response, `r0` the wire byte of the read's own address (20_memory.md R53). -/
structure Reply where
  r0 : Byte
  r1 : Byte
  r2 : Byte
  r3 : Byte
deriving DecidableEq, Repr, Inhabited

end Sys2Proof
end

