-- ==== Sys2Proof/Config.lean ====
section
/-! DEFINITION. The configuration record `CFG` (00_scope.md R5), held as plain data, and the one free value of the
model: what the transport answers (R6). -/

namespace Sys2Proof

/-- The kinds of flash bus cycle (R9, 30_encoding.md R84). -/
inductive CycleKind where
  | ident
  | reset
  | erase
  | program
deriving DecidableEq, Repr

/-- The two frame profiles (30_encoding.md R86, R87). -/
inductive Profile where
  | enc
  | plain
deriving DecidableEq, Repr

/-- The command dialect (10_state.md R29). The reserved value 3 is unrepresentable (93 I17). -/
inductive Dialect where
  | none
  | typeA
  | typeB
deriving DecidableEq, Repr

/-- One cycle `a:d` (R76): a 24-bit address and a data byte. -/
structure Cycle where
  addr : Addr24
  data : Byte
deriving DecidableEq, Repr

/-- `ERASE_PREAMBLE`: exactly five cycles (R79, 10_state.md R21). -/
structure Preamble where
  c0 : Cycle
  c1 : Cycle
  c2 : Cycle
  c3 : Cycle
  c4 : Cycle
deriving DecidableEq, Repr

/-- `CFG` (R5). Nothing in it changes while the instance runs (70_reset_and_hazards.md R204).
`DIALECT_OF` is given by the ids it maps to TYPEB, every other id being TYPEA (DESIGN CHOICE, safe: log entry 2).
The timing parameters are opaque tokens the FCB never reads (R85; log entry 15). -/
structure Config where
  capacity       : Nat
  encrypting     : Bool
  profile        : Profile
  supportedIds   : List Half
  typeBIds       : List Half
  erasePreamble  : Preamble
  resetSeq       : List Cycle
  idReadAddr     : Word
  eraseChipPlan  : List Nat
  eraseBlockSize : Nat
  tCycle         : Nat
  tRead          : Nat
  opCycle        : Byte
  subCycle       : Half
  opRead         : Byte
  subRead        : Half
deriving DecidableEq, Repr

/-- The transport's answer to one `Send(F, n, t)` (R9): `Fail`, or `Ok` with the response bytes. Of `ok`'s four bytes
a `Send` with `n = 4` takes all and one with `n = 0` none, so that an answer always has the length R6 promises. -/
inductive Answer where
  | fail
  | ok (r : Reply)
deriving DecidableEq, Repr, Inhabited

/-- FREE VALUE. The answer the transport draws for the `k`-th `Send` when no answer stands in the state's script:
"The transport's answers are draws: the FCB's rules assume nothing about them except their length" (R6, 93 I4).
Safe: nothing can be proved about it (log entry 4). -/
opaque Config.freeAnswer : Nat → Answer

end Sys2Proof
end

