-- ==== Sys2Proof/Syntax.lean ====
section
/-! DEFINITION. The instructions: one constructor per row of spec/opcode_table.json (13 request words, 7 frame rows,
14 cycle rows). -/

namespace Sys2Proof

inductive Instr where
  /- Request words (30_encoding.md R90): their operands stand in `ARG0..3` and `DATA_IN` (R91). -/
  | buildFrameG
  | buildFrameA3
  | encryptByte
  | decryptByte
  | encryptBuffer
  | identify
  | eraseBlock
  | eraseChip
  | programByte
  | readFlash
  | writeFlash
  | writeFlashWhole
  | shutdown
  /- Frames (R72, R73, R86, R87). -/
  | frameG (op : Byte) (p32 : Word) (p16 : Half)
  | frameA3 (op : Byte) (a : Addr24) (v : Byte) (s : Half)
  | encRead (a : Word)
  | encCycleSub01 (a : Addr24) (d : Byte)
  | encCycleProgram (a : Addr24) (d : Byte)
  | plainRead (o : Byte) (a : Word) (s : Half)
  | plainCycle (o : Byte) (a : Addr24) (d : Byte) (s : Half)
  /- Cycles (R77 to R81), told apart by kind and position (R82). -/
  | identUnlock1
  | identUnlock2
  | identIdEntry
  | programUnlock1
  | programUnlock2
  | programProgSetup
  | programProgData (pa : Addr24) (pd : Byte)
  | eraseErasePre0
  | eraseErasePre1
  | eraseErasePre2
  | eraseErasePre3
  | eraseErasePre4
  | eraseSectorErase (sa : Addr24)
  /-- The cycle `RESET_SEQ[j]` (R81, 42_identification.md R130). -/
  | resetReset (j : BitVec 3)
deriving DecidableEq, Repr

end Sys2Proof
end

