-- ==== Sys2Proof/WellFormed.lean ====
section
/-! DEFINITION. Which configurations the model takes (10_state.md R21) and which instructions an instance with such a
configuration can form. -/

namespace Sys2Proof

/-- `v` is a power of two. The exponents up to 24 are enough: R21 bounds the value by `CAPACITY <= 2^24`. -/
abbrev isPowerOfTwo (v : Nat) : Prop := ∃ k ∈ List.range 25, v = 2 ^ k

/-- R21: "A model refuses a configuration that breaks any of these conditions". The conditions on the number of
preamble entries and on the width of cycle addresses hold by type (log entry 3). -/
abbrev Config.WF (c : Config) : Prop :=
  (4 ≤ c.capacity ∧ c.capacity ≤ 2 ^ 24 ∧ c.capacity % 4 = 0) ∧
  (isPowerOfTwo c.eraseBlockSize ∧ 4 ≤ c.eraseBlockSize ∧ c.eraseBlockSize ≤ c.capacity ∧
    c.capacity % c.eraseBlockSize = 0) ∧
  (c.eraseChipPlan ≠ [] ∧ (∀ n ∈ c.eraseChipPlan, 1 ≤ n) ∧ c.eraseChipPlan.sum ≤ c.capacity) ∧
  (1 ≤ c.resetSeq.length ∧ c.resetSeq.length ≤ 6) ∧
  (c.profile = .enc ↔ c.encrypting = true)

/-- An instruction an instance with configuration `c` can form: a frame row of a profile belongs to the instance's
profile and carries its opcodes (R84 to R87), a block or program address lies in the flash window (R78, R144), and a
reset cycle is one of `RESET_SEQ` (R81). Request words and fixed cycles are always well formed. -/
def Instr.wf (c : Config) : Instr → Bool
  | .encRead _ | .encCycleSub01 _ _ | .encCycleProgram _ _ => c.profile == .enc
  | .plainRead o _ s => c.profile == .plain && o == c.opRead && s == c.subRead
  | .plainCycle o _ _ s => c.profile == .plain && o == c.opCycle && s == c.subCycle
  | .programProgData pa _ => decide (pa.toNat < c.capacity)
  | .eraseSectorErase sa => decide (sa.toNat < c.capacity)
  | .resetReset j => decide (j.toNat < c.resetSeq.length)
  | .buildFrameG | .buildFrameA3 | .encryptByte | .decryptByte | .encryptBuffer | .identify | .eraseBlock
  | .eraseChip | .programByte | .readFlash | .writeFlash | .writeFlashWhole | .shutdown => true
  | .frameG _ _ _ | .frameA3 _ _ _ _ => true
  | .identUnlock1 | .identUnlock2 | .identIdEntry => true
  | .programUnlock1 | .programUnlock2 | .programProgSetup => true
  | .eraseErasePre0 | .eraseErasePre1 | .eraseErasePre2 | .eraseErasePre3 | .eraseErasePre4 => true

end Sys2Proof
end

