-- ==== Sys2Proof/Machine/Instances.lean ====
section
/-! DEFINITION. Default parameter values (30_encoding.md R80, R81) and the two sample configurations of
95_test_vectors.md section 0. They are values for a state's `cfg`; no meaning reads them from here. -/

namespace Sys2Proof

/-- The default `ERASE_PREAMBLE` (R80; PRESUMED in the spec itself, 93 G1: log entry 21). -/
def defaultPreamble : Preamble :=
  { c0 := ⟨0x5555, 0xAA⟩, c1 := ⟨0x2AAA, 0x55⟩, c2 := ⟨0x5555, 0x80⟩, c3 := ⟨0x5555, 0xAA⟩, c4 := ⟨0x2AAA, 0x55⟩ }

/-- The default `RESET_SEQ` (R81; PRESUMED in the spec itself, 93 G2: log entry 21). -/
def defaultResetSeq : List Cycle := [⟨0x000000, 0xF0⟩]

/-- `CFG_E`, "the encrypting configuration used by most vectors" (95 section 0), with the plain-profile opcodes of
`CFG_P`, which an encrypting instance never reads. Its OPEN values are the spec's samples, not the hardware's
(DESIGN CHOICE, unsafe where a claim rests on them: log entry 1). -/
def Config.sampleEnc : Config :=
  { capacity := 0x100, encrypting := true, profile := .enc
    supportedIds := [0xB5BF], typeBIds := []
    erasePreamble := defaultPreamble, resetSeq := defaultResetSeq, idReadAddr := 0
    eraseChipPlan := [0x10, 0x10, 0x10, 0x10], eraseBlockSize := 0x10
    tCycle := 0, tRead := 0
    opCycle := 0xC0, subCycle := 0x0000, opRead := 0xC1, subRead := 0x0000 }

/-- `CFG_P`, the plain configuration of 95 section 0. -/
def Config.samplePlain : Config :=
  { Config.sampleEnc with encrypting := false, profile := .plain, supportedIds := [0x1F13] }

end Sys2Proof
end

