-- ==== Sys2Proof/Decode.lean ====
section
/-! DEFINITION. The encodings of 30_encoding.md: frame layouts, profiles, cycle words and request words; the decoder,
total and rejecting by name; and the encoder. A word's meaning depends on where it stands (R82), so decoder and encoder
speak of a `Code`: a word together with its place. -/

namespace Sys2Proof

/-- Layout G (R72): `[op, p32 big-endian, p16 big-endian, 0x00]`. -/
def layoutG (op : Byte) (p32 : Word) (p16 : Half) : Frame :=
  { f0 := op
    f1 := p32.extractLsb' 24 8, f2 := p32.extractLsb' 16 8, f3 := p32.extractLsb' 8 8, f4 := p32.extractLsb' 0 8
    f5 := p16.extractLsb' 8 8, f6 := p16.extractLsb' 0 8
    f7 := 0 }

/-- Layout A3 (R73): `[op, a big-endian, v, s big-endian, 0x00]`. -/
def layoutA3 (op : Byte) (a : Addr24) (v : Byte) (s : Half) : Frame :=
  { f0 := op
    f1 := a.extractLsb' 16 8, f2 := a.extractLsb' 8 8, f3 := a.extractLsb' 0 8
    f4 := v
    f5 := s.extractLsb' 8 8, f6 := s.extractLsb' 0 8
    f7 := 0 }

/-- The frame word `W64 = F[0] ++ … ++ F[7]` (R71). -/
def Frame.w64 (f : Frame) : BitVec 64 :=
  f.f0 ++ f.f1 ++ f.f2 ++ f.f3 ++ f.f4 ++ f.f5 ++ f.f6 ++ f.f7

/-- The frame a frame word stands for (R71). -/
def Frame.ofW64 (w : BitVec 64) : Frame :=
  { f0 := w.extractLsb' 56 8, f1 := w.extractLsb' 48 8, f2 := w.extractLsb' 40 8, f3 := w.extractLsb' 32 8
    f4 := w.extractLsb' 24 8, f5 := w.extractLsb' 16 8, f6 := w.extractLsb' 8 8, f7 := w.extractLsb' 0 8 }

/-- `RES0`'s half of a frame, `F[0] ++ F[1] ++ F[2] ++ F[3]` (10_state.md R30). -/
def Frame.high (f : Frame) : Word := f.f0 ++ f.f1 ++ f.f2 ++ f.f3

/-- `RES1`'s half of a frame, `F[4] ++ F[5] ++ F[6] ++ F[7]` (R30). -/
def Frame.low (f : Frame) : Word := f.f4 ++ f.f5 ++ f.f6 ++ f.f7

/-- The frame of eight bytes in transport order; any other number of bytes is no frame (R70). -/
def Frame.ofBytes : List Byte → Option Frame
  | [b0, b1, b2, b3, b4, b5, b6, b7] => some ⟨b0, b1, b2, b3, b4, b5, b6, b7⟩
  | _ => none

/-- The bytes of a frame in transport order (R70). -/
def Frame.bytes (f : Frame) : List Byte := [f.f0, f.f1, f.f2, f.f3, f.f4, f.f5, f.f6, f.f7]

/-- `SUBOP(k)` of `PROFILE_ENC` (R86). -/
def subop : CycleKind → Byte
  | .erase => 0x01
  | .program => 0x03
  | .ident => 0x01
  | .reset => 0x01

/-- `CycleFrame(PROFILE, k, a, d)` (R84, R86, R87). -/
def cycleFrame (cfg : Config) (k : CycleKind) (c : Cycle) : Frame :=
  match cfg.profile with
  | .enc => layoutA3 0xD4 c.addr c.data ((subop k).setWidth 16 <<< 8)
  | .plain => layoutA3 cfg.opCycle c.addr c.data cfg.subCycle

/-- `ReadFrame(PROFILE, a)` (R84, R86, R87). -/
def readFrame (cfg : Config) (a : Word) : Frame :=
  match cfg.profile with
  | .enc => layoutG 0xB7 a 0x2200
  | .plain => layoutG cfg.opRead a cfg.subRead

/-- The cycle word `CW = a ++ d` (R76). -/
def Cycle.word (c : Cycle) : Word := c.addr ++ c.data

/-- The cycle a cycle word stands for (R76). -/
def Cycle.ofWord (w : Word) : Cycle := ⟨w.extractLsb' 8 24, w.extractLsb' 0 8⟩

/-- `UNLOCK1`, `0x5555:0xAA` (R77, R78). -/
def unlock1 : Cycle := ⟨0x5555, 0xAA⟩
/-- `UNLOCK2`, `0x2AAA:0x55` (R77, R78). -/
def unlock2 : Cycle := ⟨0x2AAA, 0x55⟩
/-- `ID_ENTRY`, `0x5555:0x90` (R77; the address by 90_conflicts.md C1). -/
def idEntry : Cycle := ⟨0x5555, 0x90⟩
/-- `PROG_SETUP`, `0x5555:0xA0` (R78). -/
def progSetup : Cycle := ⟨0x5555, 0xA0⟩
/-- The data byte of `SECTOR_ERASE` (R79). -/
def eraseTerminator : Byte := 0x30

/-- Which layout a frame was built in: the two coincide byte for byte and are told apart only by the operation that
built them (R74). -/
inductive Layout where
  | g
  | a3
deriving DecidableEq, Repr

/-- What a sent frame is sent as: a cycle (`n = 0`) or a read (`n = 4`) (R85). -/
inductive FrameUse where
  | cycle
  | read
deriving DecidableEq, Repr

/-- A word of the spec's encodings and the place it stands in. -/
inductive Code where
  /-- A word written to `REQ` (R90). -/
  | request (w : Word)
  /-- A cycle word at a position of a sequence of a kind (R76, R82). -/
  | cycle (k : CycleKind) (pos : Nat) (cw : Word)
  /-- A frame the CODEC built (40_codec.md R110, R111). -/
  | built (l : Layout) (f : Frame)
  /-- A frame at the transport (R84). -/
  | sent (u : FrameUse) (f : Frame)
deriving DecidableEq, Repr

/-- Why a word is rejected. -/
inductive DecodeError where
  /-- `OPSEL` is 0x0, 0xD, 0xE or 0xF (R90, R176). -/
  | reservedOpsel
  /-- A bit of `REQ[31:5]` is set (R90, R176). -/
  | reservedBits
  /-- `WHOLE = 1` with an operation other than WRITE_FLASH (R90, R176). -/
  | wholeOutsideWriteFlash
  /-- The sequence of this kind has no such position (R77 to R81). -/
  | noSuchPosition
  /-- The sequence has another cycle at this position (R77 to R81). -/
  | notThisCycle
  /-- `F[7]` is not 0x00 (R75). -/
  | reservedByte
  /-- The profile sends no such frame (R86, R87). -/
  | notOfProfile
  /-- Not exactly eight bytes (R70). -/
  | wrongLength
deriving DecidableEq, Repr

/-- The request decoder (R90): the 13 legal words and no other. -/
def decodeRequest (w : Word) : Except DecodeError Instr :=
  if w.extractLsb' 5 27 ≠ 0 then .error .reservedBits
  else if w.getLsbD 4 then
    if (w.extractLsb' 0 4).toNat = 0xB then .ok .writeFlashWhole else .error .wholeOutsideWriteFlash
  else
    match (w.extractLsb' 0 4).toNat with
    | 0x1 => .ok .buildFrameG
    | 0x2 => .ok .buildFrameA3
    | 0x3 => .ok .encryptByte
    | 0x4 => .ok .decryptByte
    | 0x5 => .ok .encryptBuffer
    | 0x6 => .ok .identify
    | 0x7 => .ok .eraseBlock
    | 0x8 => .ok .eraseChip
    | 0x9 => .ok .programByte
    | 0xA => .ok .readFlash
    | 0xB => .ok .writeFlash
    | 0xC => .ok .shutdown
    | _ => .error .reservedOpsel

/-- A position whose cycle the sequence fixes. -/
def fixedCycle (expected found : Cycle) (i : Instr) : Except DecodeError Instr :=
  if found = expected then .ok i else .error .notThisCycle

/-- The cycle decoder: kind and position say which cycle it is, the word must agree (R82). -/
def decodeCycle (cfg : Config) (k : CycleKind) (pos : Nat) (cw : Word) : Except DecodeError Instr :=
  let c := Cycle.ofWord cw
  match k, pos with
  | .ident, 0 => fixedCycle unlock1 c .identUnlock1
  | .ident, 1 => fixedCycle unlock2 c .identUnlock2
  | .ident, 2 => fixedCycle idEntry c .identIdEntry
  | .ident, _ => .error .noSuchPosition
  | .program, 0 => fixedCycle unlock1 c .programUnlock1
  | .program, 1 => fixedCycle unlock2 c .programUnlock2
  | .program, 2 => fixedCycle progSetup c .programProgSetup
  | .program, 3 => .ok (.programProgData c.addr c.data)
  | .program, _ => .error .noSuchPosition
  | .erase, 0 => fixedCycle cfg.erasePreamble.c0 c .eraseErasePre0
  | .erase, 1 => fixedCycle cfg.erasePreamble.c1 c .eraseErasePre1
  | .erase, 2 => fixedCycle cfg.erasePreamble.c2 c .eraseErasePre2
  | .erase, 3 => fixedCycle cfg.erasePreamble.c3 c .eraseErasePre3
  | .erase, 4 => fixedCycle cfg.erasePreamble.c4 c .eraseErasePre4
  | .erase, 5 => if c.data = eraseTerminator then .ok (.eraseSectorErase c.addr) else .error .notThisCycle
  | .erase, _ => .error .noSuchPosition
  | .reset, j =>
    match cfg.resetSeq[j]? with
    | some e => if j < 8 then fixedCycle e c (.resetReset (BitVec.ofNat 3 j)) else .error .noSuchPosition
    | none => .error .noSuchPosition

/-- The decoder of a frame the CODEC built (R72, R73, R75). -/
def decodeBuilt (l : Layout) (f : Frame) : Except DecodeError Instr :=
  if f.f7 ≠ 0 then .error .reservedByte
  else
    match l with
    | .g => .ok (.frameG f.f0 (f.f1 ++ f.f2 ++ f.f3 ++ f.f4) (f.f5 ++ f.f6))
    | .a3 => .ok (.frameA3 f.f0 (f.f1 ++ f.f2 ++ f.f3) f.f4 (f.f5 ++ f.f6))

/-- The decoder of a frame at the transport (R86, R87, R89). -/
def decodeSent (cfg : Config) (u : FrameUse) (f : Frame) : Except DecodeError Instr :=
  if f.f7 ≠ 0 then .error .reservedByte
  else
    match cfg.profile, u with
    | .enc, .read =>
      if f.f0 = 0xB7 ∧ f.f5 = 0x22 ∧ f.f6 = 0 then .ok (.encRead (f.f1 ++ f.f2 ++ f.f3 ++ f.f4))
      else .error .notOfProfile
    | .enc, .cycle =>
      if f.f0 = 0xD4 ∧ f.f6 = 0 then
        if f.f5 = 0x01 then .ok (.encCycleSub01 (f.f1 ++ f.f2 ++ f.f3) f.f4)
        else if f.f5 = 0x03 then .ok (.encCycleProgram (f.f1 ++ f.f2 ++ f.f3) f.f4)
        else .error .notOfProfile
      else .error .notOfProfile
    | .plain, .read =>
      if f.f0 = cfg.opRead ∧ f.f5 ++ f.f6 = cfg.subRead then
        .ok (.plainRead f.f0 (f.f1 ++ f.f2 ++ f.f3 ++ f.f4) (f.f5 ++ f.f6))
      else .error .notOfProfile
    | .plain, .cycle =>
      if f.f0 = cfg.opCycle ∧ f.f5 ++ f.f6 = cfg.subCycle then
        .ok (.plainCycle f.f0 (f.f1 ++ f.f2 ++ f.f3) f.f4 (f.f5 ++ f.f6))
      else .error .notOfProfile

/-- The decoder: what a word means in its place, for an instance with configuration `cfg`. -/
def decode (cfg : Config) : Code → Except DecodeError Instr
  | .request w => decodeRequest w
  | .cycle k pos cw => decodeCycle cfg k pos cw
  | .built l f => decodeBuilt l f
  | .sent u f => decodeSent cfg u f

/-- The decoder of raw bytes handed to the transport (R70). -/
def decodeBytes (cfg : Config) (u : FrameUse) (bs : List Byte) : Except DecodeError Instr :=
  match Frame.ofBytes bs with
  | some f => decodeSent cfg u f
  | none => .error .wrongLength

/-- The encoder: the word of an instruction and its place, from the tables of R72 to R90. A reset cycle beyond
`RESET_SEQ` is not well formed and has the word 0. -/
def encode (cfg : Config) : Instr → Code
  | .buildFrameG => .request 0x00000001
  | .buildFrameA3 => .request 0x00000002
  | .encryptByte => .request 0x00000003
  | .decryptByte => .request 0x00000004
  | .encryptBuffer => .request 0x00000005
  | .identify => .request 0x00000006
  | .eraseBlock => .request 0x00000007
  | .eraseChip => .request 0x00000008
  | .programByte => .request 0x00000009
  | .readFlash => .request 0x0000000A
  | .writeFlash => .request 0x0000000B
  | .writeFlashWhole => .request 0x0000001B
  | .shutdown => .request 0x0000000C
  | .frameG op p32 p16 => .built .g (layoutG op p32 p16)
  | .frameA3 op a v s => .built .a3 (layoutA3 op a v s)
  | .encRead a => .sent .read (layoutG 0xB7 a 0x2200)
  | .encCycleSub01 a d => .sent .cycle (layoutA3 0xD4 a d 0x0100)
  | .encCycleProgram a d => .sent .cycle (layoutA3 0xD4 a d 0x0300)
  | .plainRead o a s => .sent .read (layoutG o a s)
  | .plainCycle o a d s => .sent .cycle (layoutA3 o a d s)
  | .identUnlock1 => .cycle .ident 0 unlock1.word
  | .identUnlock2 => .cycle .ident 1 unlock2.word
  | .identIdEntry => .cycle .ident 2 idEntry.word
  | .programUnlock1 => .cycle .program 0 unlock1.word
  | .programUnlock2 => .cycle .program 1 unlock2.word
  | .programProgSetup => .cycle .program 2 progSetup.word
  | .programProgData pa pd => .cycle .program 3 (Cycle.word ⟨pa, pd⟩)
  | .eraseErasePre0 => .cycle .erase 0 cfg.erasePreamble.c0.word
  | .eraseErasePre1 => .cycle .erase 1 cfg.erasePreamble.c1.word
  | .eraseErasePre2 => .cycle .erase 2 cfg.erasePreamble.c2.word
  | .eraseErasePre3 => .cycle .erase 3 cfg.erasePreamble.c3.word
  | .eraseErasePre4 => .cycle .erase 4 cfg.erasePreamble.c4.word
  | .eraseSectorErase sa => .cycle .erase 5 (Cycle.word ⟨sa, eraseTerminator⟩)
  | .resetReset j => .cycle .reset j.toNat ((cfg.resetSeq[j.toNat]?.map Cycle.word).getD 0)

/-- The first decoding of a list that is not an error. -/
def firstDecoding : List (Except DecodeError Instr) → Option Instr
  | [] => none
  | .ok i :: _ => some i
  | .error _ :: rest => firstDecoding rest

/-- A word of at most 32 bits that no place goes with: a request word if it is one of the 13; else the all-zero frame
if only its reserved byte was given; else the first sequence position it fits, the positions that fit any address
last. Rows that share a word (R82) cannot be told apart without their place (DESIGN CHOICE: log entry 11). -/
def decodeTableWord32 (nbits : Nat) (w : Word) : Option Instr :=
  firstDecoding
    [ decodeRequest w
    , if nbits = 8 ∧ w = 0 then decodeBuilt .g (layoutG 0 0 0) else .error .wrongLength
    , decodeCycle Config.sampleEnc .ident 0 w, decodeCycle Config.sampleEnc .ident 1 w
    , decodeCycle Config.sampleEnc .ident 2 w, decodeCycle Config.sampleEnc .program 2 w
    , decodeCycle Config.sampleEnc .erase 2 w, decodeCycle Config.sampleEnc .reset 0 w
    , decodeCycle Config.sampleEnc .erase 5 w, decodeCycle Config.sampleEnc .program 3 w ]

/-- A frame word that no place goes with: a frame of the encrypting profile, of the plain profile with the sample
opcodes, else a frame of layout G (log entry 11). -/
def decodeTableFrame (f : Frame) : Option Instr :=
  firstDecoding
    [ decodeSent Config.sampleEnc .read f, decodeSent Config.sampleEnc .cycle f
    , decodeSent Config.samplePlain .read f, decodeSent Config.samplePlain .cycle f
    , decodeBuilt .g f ]

/-- The instruction the decoder reads from a row's word, numbered as spec/opcode_table.json numbers it: request and
cycle words have 32 bits, frames are the 64-bit `W64`. -/
def decodeTableWord (nbits w : Nat) : Option Instr :=
  if nbits ≤ 32 then decodeTableWord32 nbits (BitVec.ofNat 32 w)
  else if nbits ≤ 64 then decodeTableFrame (Frame.ofW64 (BitVec.ofNat 64 w))
  else none

end Sys2Proof
end

