-- ==== Sys2Proof/Machine/State.lean ====
section
/-! DEFINITION. The state of the FCB (10_state.md), as plain data; what the two other agents contribute to a run (R6);
the reasons a step can stop; reset (R38, 70_reset_and_hazards.md R200). -/

namespace Sys2Proof.Machine

/-- `FSM` (R34). Code 7 is reserved and unrepresentable (93 I17). -/
inductive Fsm where
  | idle
  | ident
  | erasing
  | erasePoll
  | programming
  | programPoll
  | reading
deriving DecidableEq, Repr

/-- `STATUS.OUTER` (R26): the composite operation in progress. The value 3 is unrepresentable (93 I17). -/
inductive Outer where
  | none
  | eraseChip
  | writeFlash
deriving DecidableEq, Repr

/-- The error codes 0 to 11 (60_exceptions.md R170); 12 to 15 are unrepresentable (93 I17). -/
inductive ErrCode where
  | ok
  | unsupportedChip
  | unsupportedRevision
  | secureInitFailed
  | timeout
  | transportError
  | payloadTooLarge
  | unimplemented
  | outOfRange
  | invalidArgument
  | notReady
  | illegalOp
deriving DecidableEq, Repr

/-- The host-visible registers (R23 to R32); `Flags.lean` numbers them. -/
inductive HostReg where
  | req
  | arg0
  | arg1
  | arg2
  | arg3
  | status
  | errInfo
  | chipId
  | res0
  | res1
deriving DecidableEq, Repr

/-- What the host may do between two steps of the FCB (R39); an access waits while a `REQ` write is held (R33). -/
inductive HostAction where
  /-- Let the FCB make one step. -/
  | run
  /-- Write a register (R24, R39); a write of `REQ` is a request with an empty `DATA_IN`. -/
  | write (r : HostReg) (v : Word)
  /-- Write `REQ` and supply `DATA_IN` with it (R23, R25). -/
  | request (w : Word) (data : List Byte)
  /-- Read a register (R39). -/
  | read (r : HostReg)
  /-- Assert the reset input (70 R200, R201). -/
  | reset
deriving DecidableEq, Repr

/-- The label of a progress event (20_memory.md R58). -/
inductive Label where
  | erase
  | read
deriving DecidableEq, Repr

/-- A progress event `Progress(cur, total, label)` (R58). -/
structure ProgressEvent where
  cur   : Word
  total : Word
  label : Label
deriving DecidableEq, Repr

/-- What one `Send(F, n, t)` hands to the transport (00_scope.md R9). -/
structure Exchange where
  frame   : Frame
  respLen : Nat
  timing  : Nat
deriving DecidableEq, Repr

/-- What the sequencer does in its next step. The MODEL's own: the place in the operation rules' pseudocode between two
steps, which the spec's registers do not give in every case (log entry 8). -/
inductive Todo where
  | idle
  | cycle (k : CycleKind)
  | read
  | complete
deriving DecidableEq, Repr

/-- The state. Fields are the spec's own registers except where they say MODEL. -/
structure State where
  /-- `CFG` (R20, 00_scope.md R5). -/
  cfg       : Config
  /-- `REQ` as read back, `REQ_LATCH` (R23, R33). -/
  reqLatch  : Word
  arg0      : Word
  arg1      : Word
  arg2      : Word
  arg3      : Word
  /-- `STATUS.BUSY`, `STATUS.DONE` (R26). -/
  busy      : Bool
  done      : Bool
  dialect   : Dialect
  err       : ErrCode
  fsm       : Fsm
  outer     : Outer
  errInfo   : Word
  chipId    : Word
  res0      : Word
  res1      : Word
  dataOut   : List Byte
  /-- `SEQ_IDX` (R27). -/
  seqIdx    : BitVec 3
  /-- The sequencer working registers (R28). -/
  op        : BitVec 4
  aAddr     : Word
  aLen      : Word
  aBudget   : Word
  aWhole    : Bool
  aData     : List Byte
  cur       : Word
  att       : Word
  blkIdx    : Word
  byteIdx   : Word
  doneBytes : Word
  out       : List Byte
  /-- MODEL: `sa` of `EraseBody`, `pa` of `ProgramBody` (43 R144, R145). -/
  locAddr   : Word
  /-- MODEL: `len` of `EraseBody` (R144). -/
  locLen    : Word
  /-- MODEL: `pv` of `ProgramBody`, the wire value the poll waits for (R145, R143). -/
  locVal    : Byte
  /-- MODEL: `id` of IDENTIFY between the ID read and its end (42 R130). -/
  locId     : Word
  /-- MODEL: the sequencer's next step. -/
  todo      : Todo
  /-- MODEL: the `REQ` write issued and not yet accepted (R33); the host makes no access meanwhile (log entry 6). -/
  held      : Option Word
  /-- `DATA_IN` supplied with the last request (R25). -/
  dataIn    : List Byte
  /-- MODEL: the host's coming actions (log entry 5). -/
  host      : List HostAction
  /-- MODEL: what the host's last register read got. -/
  readData  : Word
  /-- MODEL: the transport's coming answers (log entry 4). -/
  answers   : List Answer
  /-- MODEL: the number of `Send`s so far, the argument of the free value `Config.freeAnswer`. -/
  sends     : Nat
  /-- MODEL: the frame stream at the transport, oldest first (20_memory.md R60). -/
  sent      : List Exchange
  /-- MODEL: the events at the progress port, oldest first (R58). -/
  progress  : List ProgressEvent
deriving DecidableEq, Repr

/-- Why the machine stops. The spec's errors are not among them: they are codes in `ERR` (60_exceptions.md R170). -/
inductive Fault where
  /-- The sequencer's registers name a step no operation rule has (a cycle position beyond its sequence), raised by
  `fcbStep` and by a reset cycle beyond `RESET_SEQ`. Safe: only in states no run reaches (log entry 18). -/
  | noSuchStep
deriving DecidableEq, Repr

/-- Why the model gives no meaning. -/
inductive Refusal where
  /-- An instruction without a meaning; raised by arms of `exec` only. Safe. -/
  | notModelled (mnemonic : String)
  /-- A configuration that R21 has a model refuse; raised by `step`. Safe (log entry 17). -/
  | illFormedConfig
deriving DecidableEq, Repr

/-- Every piece of state at the value of R38's table, for an instance with configuration `c`. The fields R38 does not
list are empty or 0 (DESIGN CHOICE: log entry 20). -/
def State.resetWith (c : Config) : State :=
  { cfg := c
    reqLatch := 0, arg0 := 0, arg1 := 0, arg2 := 0, arg3 := 0
    busy := false, done := false, dialect := .none, err := .ok, fsm := .idle, outer := .none
    errInfo := 0, chipId := 0, res0 := 0, res1 := 0, dataOut := []
    seqIdx := 0
    op := 0, aAddr := 0, aLen := 0, aBudget := 0, aWhole := false, aData := []
    cur := 0, att := 0, blkIdx := 0, byteIdx := 0, doneBytes := 0, out := []
    locAddr := 0, locLen := 0, locVal := 0, locId := 0, todo := .idle
    held := none, dataIn := []
    host := [], readData := 0, answers := [], sends := 0, sent := [], progress := [] }

/-- The machine right after reset: R38's values for the spec's sample configuration CFG_E (DESIGN CHOICE, unsafe where a
claim rests on that configuration: log entry 1). -/
def State.reset : State := State.resetWith Config.sampleEnc

end Sys2Proof.Machine
end

