-- ==== Sys2Proof/Machine/Xform.lean ====
section
/-! DEFINITION. The byte transform (41_transform.md R120, R121) and where SEQ applies it (R126, 00_scope.md R10). -/

namespace Sys2Proof

/-- `encryptByte` (R120): permute the bits, then XOR with 0x98. -/
def encryptByte (b : Byte) : Byte :=
  (b.extractLsb' 5 1 ++ b.extractLsb' 4 1 ++ b.extractLsb' 0 1 ++ b.extractLsb' 1 1 ++
    b.extractLsb' 3 1 ++ b.extractLsb' 7 1 ++ b.extractLsb' 2 1 ++ b.extractLsb' 6 1) ^^^ 0x98

/-- `decryptByte` (R121): XOR with 0x98, then permute the bits back. -/
def decryptByte (b : Byte) : Byte :=
  let c := b ^^^ 0x98
  c.extractLsb' 2 1 ++ c.extractLsb' 0 1 ++ c.extractLsb' 7 1 ++ c.extractLsb' 6 1 ++
    c.extractLsb' 3 1 ++ c.extractLsb' 1 1 ++ c.extractLsb' 4 1 ++ c.extractLsb' 5 1

/-- `RX(b)` (00_scope.md R10): a wire byte read from the chip to the raw byte. -/
def Config.rx (c : Config) (b : Byte) : Byte := if c.encrypting then encryptByte b else b

/-- `TX(b)` (R10): a raw byte to the wire byte to send. -/
def Config.tx (c : Config) (b : Byte) : Byte := if c.encrypting then decryptByte b else b

end Sys2Proof
end

