-- ==== Sys2Proof/Machine/Operands.lean ====
section
/-! DEFINITION. Operand assembly (30_encoding.md R91), the windows and addresses the flash operations compute
(43_flash_programming.md R142, R144, R154) and the values read responses give (20_memory.md R53). -/

namespace Sys2Proof

/-- A response as a 32-bit value: little-endian, `r[3] ++ r[2] ++ r[1] ++ r[0]` (R53). -/
def replyWord (r : Reply) : Word := r.r3 ++ r.r2 ++ r.r1 ++ r.r0

/-- The raw bytes of a response in ascending address order (R10, R53). -/
def Config.rawBytes (c : Config) (r : Reply) : List Byte := [c.rx r.r0, c.rx r.r1, c.rx r.r2, c.rx r.r3]

/-- Whether a response reads as erased: every byte 0xFF after `RX` (R141). -/
def Config.readsErased (c : Config) (r : Reply) : Bool := (c.rawBytes r).all (· == 0xFF)

/-- `isSupported(id)`: the low 16 bits are in the allow-list (42_identification.md R132). -/
def Config.isSupported (c : Config) (id : Word) : Bool := c.supportedIds.contains (id.extractLsb' 0 16)

/-- `DIALECT_OF(id[15:0])` (R133). -/
def Config.dialectOf (c : Config) (id : Word) : Dialect :=
  if c.typeBIds.contains (id.extractLsb' 0 16) then .typeB else .typeA

/-- `sum(ERASE_CHIP_PLAN)` (43 R146). -/
def Config.planTotal (c : Config) : Nat := c.eraseChipPlan.sum

/-- `AlignedWords(o, l)` (R142): "every address `w` with `o <= w < o + l` and `w mod 4 = 0`", ascending. -/
def alignedWords (o l : Nat) : List Nat := ((List.range l).map (o + ·)).filter (· % 4 = 0)

/-- The first aligned word at or after `o` and before `stop`: the words of `AlignedWords` one at a time (R142). -/
def nextAligned (o stop : Nat) : Option Nat :=
  let w := (o + 3) / 4 * 4
  if w < stop then some w else none

end Sys2Proof

namespace Sys2Proof.Machine

/-- The opcode or byte operand `ARG0[7:0]` (R91). -/
def State.byteOperand (s : State) : Byte := s.arg0.extractLsb' 0 8

/-- BUILD_FRAME_G's `param16`, `ARG2[15:0]` (R91). -/
def State.param16Operand (s : State) : Half := s.arg2.extractLsb' 0 16

/-- BUILD_FRAME_A3's address, `ARG1[23:0]` (R91). -/
def State.addr24Operand (s : State) : Addr24 := s.arg1.extractLsb' 0 24

/-- BUILD_FRAME_A3's address bits that must be 0, `ARG1[31:24]` (R91, R111). -/
def State.addr24Excess (s : State) : Byte := s.arg1.extractLsb' 24 8

/-- BUILD_FRAME_A3's value, `ARG2[7:0]` (R91). -/
def State.valueOperand (s : State) : Byte := s.arg2.extractLsb' 0 8

/-- BUILD_FRAME_A3's sub-parameter, `ARG3[15:0]` (R91). -/
def State.subOperand (s : State) : Half := s.arg3.extractLsb' 0 16

/-- PROGRAM_BYTE's value from the latched operand, `A_LEN[7:0]` (R28, R152). -/
def State.programValue (s : State) : Byte := s.aLen.extractLsb' 0 8

/-- The frame BUILD_FRAME_G builds from the operand registers (R110). -/
def State.frameGOperands (s : State) : Frame := layoutG s.byteOperand s.arg1 s.param16Operand

/-- The frame BUILD_FRAME_A3 builds from the operand registers (R111). -/
def State.frameA3Operands (s : State) : Frame :=
  layoutA3 s.byteOperand s.addr24Operand s.valueOperand s.subOperand

/-- The end of the block being erased, `sa + len` (R144). -/
def State.blockEnd (s : State) : Nat := s.locAddr.toNat + s.locLen.toNat

/-- Where ERASE_CHIP's plan starts: the operand, or 0 inside WRITE_FLASH (R151, R154). -/
def State.planStart (s : State) : Word :=
  match s.outer with
  | .eraseChip => s.aAddr
  | .none | .writeFlash => 0

/-- The address of block `i` of WRITE_FLASH's minimal erase, `floor(A_ADDR / B) * B + i * B` (R154). -/
def State.minimalBlock (s : State) (i : Nat) : Nat :=
  s.aAddr.toNat / s.cfg.eraseBlockSize * s.cfg.eraseBlockSize + i * s.cfg.eraseBlockSize

/-- The end of the operation's window, `A_ADDR + A_LEN`, on unbounded naturals (R181 check 5). -/
def State.windowEnd (s : State) : Nat := s.aAddr.toNat + s.aLen.toNat

end Sys2Proof.Machine
end

