-- ==== Sys2Proof/Machine/Ops.lean ====
section
/-! DEFINITION. The operations every meaning is built from: raising an error, the FCB's whole trap entry
(60_exceptions.md R180), and ending an operation (10_state.md R30); accepting a request (R33) and its checks (R181); one
`Send` and the two primitives over it, `Cycle` and `ReadWord` (00_scope.md R9). -/

namespace Sys2Proof.Machine

/-- `raise E(info)`: the abort of R180. `DIALECT`, `CHIPID` and the working registers keep their values. -/
def State.raise (e : ErrCode) (info : Word) (s : State) : State :=
  { s with
    fsm := .idle, outer := .none, seqIdx := 0
    err := e, errInfo := info
    res0 := 0, res1 := 0, dataOut := []
    busy := false, done := true
    todo := .idle }

/-- `complete(res0, res1)` (00_scope.md R9, R30; `BUSY` and `DONE` by R26). -/
def State.complete (r0 r1 : Word) (s : State) : State :=
  { s with res0 := r0, res1 := r1, busy := false, done := true, todo := .idle }

/-- The end of a sequencer operation: `OUTER <- 0; FSM <- IDLE; complete(res0, res1)` (43 R150 to R154). -/
def State.finish (r0 r1 : Word) (s : State) : State :=
  { s with outer := .none, fsm := .idle }.complete r0 r1

/-- What acceptance latches and clears, in R33's order. DEDUCED (log entry 28): R33 says so of every accepted request, the
pure ones too, so BUILD_FRAME_G and BUILD_FRAME_A3 also write `OP` and `A_*`; that they change "no SEQ state" (40_codec.md
R112) is read of the operation's rule and of what a later SEQ operation can see. DEDUCED (log entry 29): the acceptance
does not write `CHIPID` (R33, R31), although 70 R212 names it among the registers that hold "the values written at
acceptance" while busy; only IDENTIFY's own rule writes it 0. -/
def State.latch (w : Word) (s : State) : State :=
  { s with
    reqLatch := w, done := false, err := .ok, errInfo := 0, res0 := 0, res1 := 0, dataOut := []
    op := w.extractLsb' 0 4
    aAddr := s.arg0, aLen := s.arg1, aBudget := s.arg2, aWhole := w.getLsbD 4, aData := s.dataIn
    held := none }

/-- A request with word `w`: accepted when `BUSY = 0`, and "while `BUSY = 1` the write is held, not dropped" (R33). -/
def State.request (w : Word) (rule : State → State) (s : State) : State :=
  if s.busy then { s with held := some w } else rule (s.latch w)

/-- An acceptance check: whether it fails, the error it raises and that error's info value. -/
structure Check where
  failed : Bool
  error  : ErrCode
  info   : Word
deriving DecidableEq, Repr

/-- "The first that fails raises its error, and no later check runs" (R181). -/
def firstFailed : List Check → Option Check
  | [] => none
  | c :: rest => if c.failed then some c else firstFailed rest

/-- Run an operation's rule if every acceptance check passes, else raise the first failed check's error (R181). -/
def State.guarded (checks : List Check) (rule : State → State) (s : State) : State :=
  match firstFailed checks with
  | some c => s.raise c.error c.info
  | none => rule s

/-- Check 2: a flash operation with `DIALECT = NONE` (R178). -/
def State.readyCheck (s : State) : Check := ⟨s.dialect == .none, .notReady, 0⟩

/-- Check 3: a flash operation with `DIALECT = TYPEB` (R174). -/
def State.dialectCheck (s : State) : Check := ⟨s.dialect == .typeB, .unimplemented, 0⟩

/-- Check 4, first condition: a poll budget of 0 (R177). -/
def State.budgetCheck (s : State) : Check := ⟨s.aBudget == 0, .invalidArgument, s.aBudget⟩

/-- Check 4, second condition: a BUILD_FRAME_A3 address wider than 24 bits (R177). -/
def State.addressCheck (s : State) : Check := ⟨s.addr24Excess != 0, .invalidArgument, s.arg1⟩

/-- Check 4, third condition: `DATA_IN` does not hold exactly `ARG1` bytes (R177). -/
def State.payloadCheck (s : State) : Check := ⟨s.aData.length != s.aLen.toNat, .invalidArgument, s.aLen⟩

/-- Check 5: the operation's window leaves `[0, CAPACITY)` (R175). -/
def State.rangeCheck (inRange : Bool) (s : State) : Check := ⟨!inRange, .outOfRange, s.aAddr⟩

/-- The transport's answer to the next `Send`: the script's next, else a free value (R6). -/
def State.nextAnswer (s : State) : Answer :=
  match s.answers with
  | a :: _ => a
  | [] => Config.freeAnswer s.sends

/-- The traffic of one `Send(F, n, t)` (00_scope.md R9): the frame leaves and one answer is used up. -/
def State.send (f : Frame) (n t : Nat) (s : State) : State :=
  { s with answers := s.answers.tail, sends := s.sends + 1, sent := s.sent ++ [⟨f, n, t⟩] }

/-- `Cycle(k, a, d)` for the frame `f` of `a:d` (R9): response length 0 and `T_CYCLE` (30_encoding.md R85); `Fail`
raises `TransportError(a)`, else the computation `next` follows. -/
def State.sendCycle (f : Frame) (a : Addr24) (next : State → State) (s : State) : State :=
  match s.nextAnswer with
  | .fail => (s.send f 0 s.cfg.tCycle).raise .transportError (a.setWidth 32)
  | .ok _ => next (s.send f 0 s.cfg.tCycle)

/-- `ReadWord(a)` for the frame `f` of a read of `a` (R9): response length 4 and `T_READ` (R85); `Fail` raises
`TransportError(a)`, else the computation `next` takes the response. -/
def State.sendRead (f : Frame) (a : Word) (next : Reply → State → State) (s : State) : State :=
  match s.nextAnswer with
  | .fail => (s.send f 4 s.cfg.tRead).raise .transportError a
  | .ok r => next r (s.send f 4 s.cfg.tRead)

/-- `Progress(cur, total, label)` (20_memory.md R58). -/
def State.emit (cur total : Nat) (l : Label) (s : State) : State :=
  { s with progress := s.progress ++ [⟨BitVec.ofNat 32 cur, BitVec.ofNat 32 total, l⟩] }

end Sys2Proof.Machine
end

