-- ==== Sys2Proof/Machine/Bodies.lean ====
section
/-! DEFINITION. "All the computation up to the next `Send`" (00_scope.md R7): what follows a successful cycle or read in
the operation rules of 42_identification.md and 43_flash_programming.md. Each function leaves in `todo` what the
sequencer does next. -/

namespace Sys2Proof.Machine

/-- Nothing is left to send: the next step is the completion (R7). -/
def State.toCompletion (s : State) : State := { s with todo := .complete }

/-- The next step is a read at `a` (R9). -/
def State.toRead (a : Word) (s : State) : State := { s with cur := a, todo := .read }

/-- `ATT <- 0; CUR <- a` and the first read of a poll loop (R141, R143). -/
def State.startPoll (a : Word) (s : State) : State := { s with att := 0 }.toRead a

/-- `ATT <- ATT + 1; if ATT = A_BUDGET then raise Timeout(CUR)`, else the poll reads again (R141, R143). -/
def State.pollMissed (s : State) : State :=
  if s.att + 1 = s.aBudget then { s with att := s.att + 1 }.raise .timeout s.cur
  else { s with att := s.att + 1 }

/-- The opening of `EraseBody(sa, len)` (R144). -/
def State.startErase (sa len : Nat) (s : State) : State :=
  { s with
    fsm := .erasing, seqIdx := 0
    locAddr := BitVec.ofNat 32 sa, locLen := BitVec.ofNat 32 len
    todo := .cycle .erase }

/-- The opening of `ProgramBody(pa, pv)` (R145). -/
def State.startProgram (pa : Word) (pv : Byte) (s : State) : State :=
  { s with fsm := .programming, seqIdx := 0, locAddr := pa, locVal := pv, todo := .cycle .program }

/-- WRITE_FLASH's byte loop at index `i`: program `TX(A_DATA[i])` at `A_ADDR + i`, or end after the last (R154). -/
def State.programByteAt (i : Nat) (s : State) : State :=
  match s.aData[i]? with
  | some d =>
    { s with byteIdx := BitVec.ofNat 32 i, cur := s.aAddr + BitVec.ofNat 32 i }.startProgram
      (s.aAddr + BitVec.ofNat 32 i) (s.cfg.tx d)
  | none => s.toCompletion

/-- `EraseChipBody`'s block loop at index `i`, `after` following the last block (R146). -/
def State.eraseChipBlock (i : Nat) (after : State → State) (s : State) : State :=
  match s.cfg.eraseChipPlan[i]? with
  | some size => { s with blkIdx := BitVec.ofNat 32 i }.startErase (s.planStart.toNat + s.doneBytes.toNat) size
  | none => after s

/-- The opening of `EraseChipBody` (R146). -/
def State.startEraseChip (after : State → State) (s : State) : State :=
  { s with doneBytes := 0 }.eraseChipBlock 0 after

/-- The end of a plan block: `DONE_BYTES <- DONE_BYTES + s; Progress(DONE_BYTES, total, ERASE)` and the next (R146). -/
def State.planBlockDone (after : State → State) (s : State) : State :=
  ({ s with doneBytes := s.doneBytes + s.locLen }.emit (s.doneBytes + s.locLen).toNat s.cfg.planTotal .erase).eraseChipBlock
    (s.blkIdx.toNat + 1) after

/-- WRITE_FLASH's minimal erase with `BLK_IDX = i`: the block at `b` while `b < A_ADDR + L`, then the bytes (R154). -/
def State.minimalEraseBlock (i : Nat) (s : State) : State :=
  let s' := { s with blkIdx := BitVec.ofNat 32 i }
  if s.minimalBlock i < s.windowEnd then s'.startErase (s.minimalBlock i) s.cfg.eraseBlockSize
  else s'.programByteAt 0

/-- The end of an `EraseBody` in the operation it serves (R150, R151, R154). -/
def State.blockDone (s : State) : State :=
  match s.outer with
  | .none => s.toCompletion
  | .eraseChip => s.planBlockDone State.toCompletion
  | .writeFlash =>
    if s.aWhole then s.planBlockDone (State.programByteAt 0) else s.minimalEraseBlock (s.blkIdx.toNat + 1)

/-- The erase poll from address `o` on: the next aligned word of the block, or the block's end (R144). -/
def State.pollBlockFrom (o : Nat) (s : State) : State :=
  match nextAligned o s.blockEnd with
  | some w => { s with fsm := .erasePoll }.startPoll (BitVec.ofNat 32 w)
  | none => s.blockDone

/-- The end of a `ProgramBody` in the operation it serves (R152, R154). -/
def State.byteDone (s : State) : State :=
  match s.outer with
  | .writeFlash => s.programByteAt (s.byteIdx.toNat + 1)
  | .none | .eraseChip => s.toCompletion

/-- After the `n`-th cycle of a fixed sequence of kind `k` was sent: `seq <- n`, and what follows the sequence if that was
its last (42 R130, 43 R144, R145). -/
def State.cycleSent (k : CycleKind) (n : Nat) (s : State) : State :=
  let s := { s with seqIdx := BitVec.ofNat 3 n }
  match k with
  | .ident => if n = 3 then s.toRead s.cfg.idReadAddr else s
  | .reset =>
    if n = s.cfg.resetSeq.length then
      if s.cfg.isSupported s.locId then s.toCompletion else s.raise .unsupportedChip s.locId
    else s
  | .erase => if n = 6 then s.pollBlockFrom s.locAddr.toNat else s
  | .program => if n = 4 then { s with fsm := .programPoll }.startPoll s.locAddr else s

/-- After IDENTIFY's read: the identity is kept and the reset cycles begin (42 R130). -/
def State.idRead (r : Reply) (s : State) : State :=
  { s with locId := replyWord r, seqIdx := 0, todo := .cycle .reset }

/-- READ_FLASH's bytes of one response and its progress event, then the next word or the end (43 R153). -/
def State.wordRead (r : Reply) (s : State) : State :=
  let got := s.byteIdx.toNat + 4
  let s' := { s with
    out := s.out ++ (s.cfg.rawBytes r).take (s.aLen.toNat - s.byteIdx.toNat)
    byteIdx := s.byteIdx + 4 }.emit (min got s.aLen.toNat) s.aLen.toNat .read
  if got < s.aLen.toNat then s'.toRead (s.aAddr + (s.byteIdx + 4)) else s'.toCompletion

/-- After a successful read in the sequencer's state: the identity, an erase poll (R141), a program poll (R143) or a word
of READ_FLASH (R153). In the other states the rules read nothing and nothing follows. -/
def State.readDone (r : Reply) (s : State) : State :=
  match s.fsm with
  | .ident => s.idRead r
  | .erasePoll => if s.cfg.readsErased r then s.pollBlockFrom (s.cur.toNat + 1) else s.pollMissed
  | .programPoll => if r.r0 = s.locVal then s.byteDone else s.pollMissed
  | .reading => s.wordRead r
  | .idle | .erasing | .programming => s

end Sys2Proof.Machine
end

