-- ==== Sys2Proof/Machine/Codec.lean ====
section
/-! DEFINITION. The CODEC's host operations (40_codec.md R110, R111) and the frames they build (30_encoding.md R72, R73). -/

namespace Sys2Proof.Machine

/-- A built frame in the result registers: `RES0 = F[0..3]`, `RES1 = F[4..7]` (R30). -/
def State.completeFrame (f : Frame) (s : State) : State := s.complete f.high f.low

/-- BUILD_FRAME_G (R110). -/
def execBuildFrameG (s : State) : Host.Outcome State Fault Refusal :=
  .next (s.request 0x00000001 fun s => s.completeFrame s.frameGOperands)

/-- BUILD_FRAME_A3 (R111). -/
def execBuildFrameA3 (s : State) : Host.Outcome State Fault Refusal :=
  .next (s.request 0x00000002 fun s => s.guarded [s.addressCheck] fun s => s.completeFrame s.frameA3Operands)

/-- FRAME_G (R72): the frame comes into being as the result of `BUILD_FRAME_G op, p32, p16` (the row's note; R93 writes
the request so), its operands in `ARG0..2` (R91). DEDUCED: log entry 9. -/
def execFrameG (op : Byte) (p32 : Word) (p16 : Half) (s : State) : Host.Outcome State Fault Refusal :=
  .next ({ s with arg0 := op.setWidth 32, arg1 := p32, arg2 := p16.setWidth 32 }.request 0x00000001
    fun s => s.completeFrame (layoutG op p32 p16))

/-- FRAME_A3 (R73): the result of `BUILD_FRAME_A3 op, a, v, s` (R93), its operands in `ARG0..3` (R91). DEDUCED: log
entry 9. -/
def execFrameA3 (op : Byte) (a : Addr24) (v : Byte) (sub : Half) (s : State) : Host.Outcome State Fault Refusal :=
  .next ({ s with
    arg0 := op.setWidth 32, arg1 := a.setWidth 32, arg2 := v.setWidth 32, arg3 := sub.setWidth 32 }.request 0x00000002
    fun s => s.completeFrame (layoutA3 op a v sub))

end Sys2Proof.Machine
end

