-- ==== Sys2Proof/Machine/Cycles.lean ====
section
/-! DEFINITION. The cycles of the fixed sequences (30_encoding.md R77 to R81), each one `Send` step of the sequencer
(00_scope.md R7): the frame of the instance's profile, `seq` moved past the cycle's position, and the computation up to
the next `Send`. -/

namespace Sys2Proof.Machine

/-- `Cycle(k, a, d); seq <- pos + 1` and what follows (42 R130, 43 R144, R145). -/
def State.cycleStep (k : CycleKind) (pos : Nat) (c : Cycle) (s : State) : State :=
  s.sendCycle (cycleFrame s.cfg k c) c.addr (State.cycleSent k (pos + 1))

/-- IDENT.UNLOCK1 (R77). -/
def execIdentUnlock1 (s : State) : Host.Outcome State Fault Refusal := .next (s.cycleStep .ident 0 unlock1)

/-- IDENT.UNLOCK2 (R77). -/
def execIdentUnlock2 (s : State) : Host.Outcome State Fault Refusal := .next (s.cycleStep .ident 1 unlock2)

/-- IDENT.ID_ENTRY (R77). -/
def execIdentIdEntry (s : State) : Host.Outcome State Fault Refusal := .next (s.cycleStep .ident 2 idEntry)

/-- PROGRAM.UNLOCK1 (R78). -/
def execProgramUnlock1 (s : State) : Host.Outcome State Fault Refusal := .next (s.cycleStep .program 0 unlock1)

/-- PROGRAM.UNLOCK2 (R78). -/
def execProgramUnlock2 (s : State) : Host.Outcome State Fault Refusal := .next (s.cycleStep .program 1 unlock2)

/-- PROGRAM.PROG_SETUP (R78). -/
def execProgramProgSetup (s : State) : Host.Outcome State Fault Refusal := .next (s.cycleStep .program 2 progSetup)

/-- PROGRAM.PROG_DATA (R78): `PA:PD`, and then `PollProgrammed(PA, PD)` (43 R143, R145). -/
def execProgramProgData (pa : Addr24) (pd : Byte) (s : State) : Host.Outcome State Fault Refusal :=
  .next ({ s with locAddr := pa.setWidth 32, locVal := pd }.cycleStep .program 3 ⟨pa, pd⟩)

/-- ERASE.ERASE_PRE0 (R79, R80). -/
def execEraseErasePre0 (s : State) : Host.Outcome State Fault Refusal :=
  .next (s.cycleStep .erase 0 s.cfg.erasePreamble.c0)

/-- ERASE.ERASE_PRE1 (R79, R80). -/
def execEraseErasePre1 (s : State) : Host.Outcome State Fault Refusal :=
  .next (s.cycleStep .erase 1 s.cfg.erasePreamble.c1)

/-- ERASE.ERASE_PRE2 (R79, R80). -/
def execEraseErasePre2 (s : State) : Host.Outcome State Fault Refusal :=
  .next (s.cycleStep .erase 2 s.cfg.erasePreamble.c2)

/-- ERASE.ERASE_PRE3 (R79, R80). -/
def execEraseErasePre3 (s : State) : Host.Outcome State Fault Refusal :=
  .next (s.cycleStep .erase 3 s.cfg.erasePreamble.c3)

/-- ERASE.ERASE_PRE4 (R79, R80). -/
def execEraseErasePre4 (s : State) : Host.Outcome State Fault Refusal :=
  .next (s.cycleStep .erase 4 s.cfg.erasePreamble.c4)

/-- ERASE.SECTOR_ERASE (R79): `SA:0x30`, and then the block's aligned words are polled (43 R144). -/
def execEraseSectorErase (sa : Addr24) (s : State) : Host.Outcome State Fault Refusal :=
  .next ({ s with locAddr := sa.setWidth 32 }.cycleStep .erase 5 ⟨sa, eraseTerminator⟩)

/-- RESET.RESET (R81): the cycle `RESET_SEQ[j]`. `RESET_SEQ` without an entry `j` has no such cycle. -/
def execResetReset (j : BitVec 3) (s : State) : Host.Outcome State Fault Refusal :=
  match s.cfg.resetSeq[j.toNat]? with
  | some c => .next (s.cycleStep .reset j.toNat c)
  | none => .fault .noSuchStep

end Sys2Proof.Machine
end

