-- ==== Sys2Proof/Machine/Flash.lean ====
section
/-! DEFINITION. The flash operations (43_flash_programming.md R150 to R154), their acceptance and the opening of their
rule, and the completion step of every sequencer operation (00_scope.md R7). -/

namespace Sys2Proof.Machine

/-- `BUSY <- 1` and the operation's rule (R33). -/
def State.begin (rule : State → State) (s : State) : State := rule { s with busy := true }

/-- ERASE_BLOCK (R150). -/
def execEraseBlock (s : State) : Host.Outcome State Fault Refusal :=
  .next (s.request 0x00000007 fun s => s.guarded
    [ s.readyCheck, s.dialectCheck, s.budgetCheck
    , s.rangeCheck (s.aAddr.toNat < s.cfg.capacity && s.windowEnd ≤ s.cfg.capacity) ]
    (State.begin fun s => s.startErase s.aAddr.toNat s.aLen.toNat))

/-- ERASE_CHIP (R151). -/
def execEraseChip (s : State) : Host.Outcome State Fault Refusal :=
  .next (s.request 0x00000008 fun s => s.guarded
    [ s.readyCheck, s.dialectCheck, s.budgetCheck
    , s.rangeCheck (s.aAddr.toNat < s.cfg.capacity && s.aAddr.toNat + s.cfg.planTotal ≤ s.cfg.capacity) ]
    (State.begin fun s => { s with outer := .eraseChip }.startEraseChip State.toCompletion))

/-- PROGRAM_BYTE (R152): the value is a wire byte, sent as given. -/
def execProgramByte (s : State) : Host.Outcome State Fault Refusal :=
  .next (s.request 0x00000009 fun s => s.guarded
    [ s.readyCheck, s.dialectCheck, s.budgetCheck, s.rangeCheck (s.aAddr.toNat < s.cfg.capacity) ]
    (State.begin fun s => s.startProgram s.aAddr s.programValue))

/-- READ_FLASH (R153): with `L = 0` it completes in its acceptance ("`BUSY` is 1 while `L > 0`"). -/
def execReadFlash (s : State) : Host.Outcome State Fault Refusal :=
  .next (s.request 0x0000000A fun s => s.guarded
    [ s.readyCheck, s.dialectCheck, s.rangeCheck (s.windowEnd ≤ s.cfg.capacity) ]
    fun s =>
      if s.aLen = 0 then { s with out := [], byteIdx := 0, dataOut := [] }.finish 0 0
      else s.begin fun s => { s with fsm := .reading, out := [], byteIdx := 0 }.toRead s.aAddr)

/-- WRITE_FLASH's rule behind its request word: nothing for `L = 0`, else the erase the request asks for, then the bytes
(R154). -/
def State.writeFlashRule (s : State) : State :=
  s.guarded
    [ s.readyCheck, s.dialectCheck, s.budgetCheck, s.payloadCheck, s.rangeCheck (s.windowEnd ≤ s.cfg.capacity) ]
    fun s =>
      if s.aLen = 0 then s.complete 0 0
      else s.begin fun s =>
        if s.aWhole then { s with outer := .writeFlash }.startEraseChip (State.programByteAt 0)
        else { s with outer := .writeFlash }.minimalEraseBlock 0

/-- WRITE_FLASH with `WHOLE = 0`: minimal aligned erase (R154). -/
def execWriteFlash (s : State) : Host.Outcome State Fault Refusal :=
  .next (s.request 0x0000000B State.writeFlashRule)

/-- WRITE_FLASH.WHOLE: `REQ.WHOLE = 1`, whole-chip erase first (R154). -/
def execWriteFlashWhole (s : State) : Host.Outcome State Fault Refusal :=
  .next (s.request 0x0000001B State.writeFlashRule)

/-- The completion step of the operation in `OP` (R7): its last actions and `complete` (42 R130, 43 R150 to R154).
DEDUCED, that this is a step of its own: log entry 7. -/
def State.completion (s : State) : State :=
  match s.op.toNat with
  | 0x6 => { s with chipId := s.locId, dialect := s.cfg.dialectOf s.locId }.finish s.locId 0
  | 0x8 => s.finish (BitVec.ofNat 32 s.cfg.planTotal) 0
  | 0xA => { s with dataOut := s.out }.finish s.aLen 0
  | 0xB => s.finish s.aLen 0
  | _ => s.finish 0 0

end Sys2Proof.Machine
end

