-- ==== Sys2Proof/Machine/Frames.lean ====
section
/-! DEFINITION. The frames SEQ hands to the transport (30_encoding.md R84 to R87), each one `Send` step of the sequencer
(00_scope.md R7) at the place the sequencer's registers give it. -/

namespace Sys2Proof.Machine

/-- What follows a cycle frame whose kind and position only the sequencer knows (R82): the cycle at `SEQ_IDX` of the
sequence in progress was sent. Outside a sequence nothing follows. -/
def State.cycleFrameSent (s : State) : State :=
  match s.todo with
  | .cycle k => s.cycleSent k (s.seqIdx.toNat + 1)
  | .idle | .read | .complete => s

/-- ENC.READ (R86): `B7 a[31:24] a[23:16] a[15:8] a[7:0] 22 00 00`. -/
def execEncRead (a : Word) (s : State) : Host.Outcome State Fault Refusal :=
  .next (s.sendRead (layoutG 0xB7 a 0x2200) a State.readDone)

/-- ENC.CYCLE_SUB01 (R86): `D4 a[23:16] a[15:8] a[7:0] d 01 00 00`, an erase, ident or reset cycle. -/
def execEncCycleSub01 (a : Addr24) (d : Byte) (s : State) : Host.Outcome State Fault Refusal :=
  .next (s.sendCycle (layoutA3 0xD4 a d 0x0100) a State.cycleFrameSent)

/-- ENC.CYCLE_PROGRAM (R86): `D4 a[23:16] a[15:8] a[7:0] d 03 00 00`, a program cycle. -/
def execEncCycleProgram (a : Addr24) (d : Byte) (s : State) : Host.Outcome State Fault Refusal :=
  .next (s.sendCycle (layoutA3 0xD4 a d 0x0300) a State.cycleFrameSent)

/-- PLAIN.READ (R87). -/
def execPlainRead (o : Byte) (a : Word) (sub : Half) (s : State) : Host.Outcome State Fault Refusal :=
  .next (s.sendRead (layoutG o a sub) a State.readDone)

/-- PLAIN.CYCLE (R87). -/
def execPlainCycle (o : Byte) (a : Addr24) (d : Byte) (sub : Half) (s : State) : Host.Outcome State Fault Refusal :=
  .next (s.sendCycle (layoutA3 o a d sub) a State.cycleFrameSent)

end Sys2Proof.Machine
end

