-- ==== Sys2Proof/Machine/Identification.lean ====
section
/-! DEFINITION. IDENTIFY and SHUTDOWN (42_identification.md R130, R131). -/

namespace Sys2Proof.Machine

/-- IDENTIFY (R130), its acceptance: "IDENTIFY's first action sets `DIALECT <- NONE` and `CHIPID <- 0`" (R135), and the
identification cycles begin. -/
def execIdentify (s : State) : Host.Outcome State Fault Refusal :=
  .next (s.request 0x00000006 fun s =>
    { s with busy := true, dialect := .none, chipId := 0, fsm := .ident, seqIdx := 0, todo := .cycle .ident })

/-- SHUTDOWN (R131). -/
def execShutdown (s : State) : Host.Outcome State Fault Refusal :=
  .next (s.request 0x0000000C fun s => { s with dialect := .none, chipId := 0 }.complete 0 0)

end Sys2Proof.Machine
end

