-- ==== Sys2Proof/Machine/Transform.lean ====
section
/-! DEFINITION. The XFORM's host operations (41_transform.md R122 to R124). -/

namespace Sys2Proof.Machine

/-- ENCRYPT_BYTE (R122). -/
def execEncryptByte (s : State) : Host.Outcome State Fault Refusal :=
  .next (s.request 0x00000003 fun s => s.complete ((encryptByte s.byteOperand).setWidth 32) 0)

/-- DECRYPT_BYTE (R123). -/
def execDecryptByte (s : State) : Host.Outcome State Fault Refusal :=
  .next (s.request 0x00000004 fun s => s.complete ((decryptByte s.byteOperand).setWidth 32) 0)

/-- ENCRYPT_BUFFER (R124): `OUT[i] <- encryptByte(A_DATA[i])` for every byte, `DATA_OUT <- OUT`. -/
def execEncryptBuffer (s : State) : Host.Outcome State Fault Refusal :=
  .next (s.request 0x00000005 fun s => s.guarded [s.payloadCheck] fun s =>
    { s with out := s.aData.map encryptByte, dataOut := s.aData.map encryptByte }.complete s.aLen 0)

end Sys2Proof.Machine
end

