-- ==== Sys2Proof/Machine/Dispatch.lean ====
section
/-! DEFINITION. One arm per constructor of Instr. -/

namespace Sys2Proof.Machine

def exec (i : Instr) (s : State) : Host.Outcome State Fault Refusal :=
  match i with
  | .buildFrameG => Sys2Proof.Machine.execBuildFrameG s
  | .buildFrameA3 => Sys2Proof.Machine.execBuildFrameA3 s
  | .encryptByte => Sys2Proof.Machine.execEncryptByte s
  | .decryptByte => Sys2Proof.Machine.execDecryptByte s
  | .encryptBuffer => Sys2Proof.Machine.execEncryptBuffer s
  | .identify => Sys2Proof.Machine.execIdentify s
  | .eraseBlock => Sys2Proof.Machine.execEraseBlock s
  | .eraseChip => Sys2Proof.Machine.execEraseChip s
  | .programByte => Sys2Proof.Machine.execProgramByte s
  | .readFlash => Sys2Proof.Machine.execReadFlash s
  | .writeFlash => Sys2Proof.Machine.execWriteFlash s
  | .writeFlashWhole => Sys2Proof.Machine.execWriteFlashWhole s
  | .shutdown => Sys2Proof.Machine.execShutdown s
  | .frameG op p32 p16 => Sys2Proof.Machine.execFrameG op p32 p16 s
  | .frameA3 op a v sub => Sys2Proof.Machine.execFrameA3 op a v sub s
  | .encRead a => Sys2Proof.Machine.execEncRead a s
  | .encCycleSub01 a d => Sys2Proof.Machine.execEncCycleSub01 a d s
  | .encCycleProgram a d => Sys2Proof.Machine.execEncCycleProgram a d s
  | .plainRead o a sub => Sys2Proof.Machine.execPlainRead o a sub s
  | .plainCycle o a d sub => Sys2Proof.Machine.execPlainCycle o a d sub s
  | .identUnlock1 => Sys2Proof.Machine.execIdentUnlock1 s
  | .identUnlock2 => Sys2Proof.Machine.execIdentUnlock2 s
  | .identIdEntry => Sys2Proof.Machine.execIdentIdEntry s
  | .programUnlock1 => Sys2Proof.Machine.execProgramUnlock1 s
  | .programUnlock2 => Sys2Proof.Machine.execProgramUnlock2 s
  | .programProgSetup => Sys2Proof.Machine.execProgramProgSetup s
  | .programProgData pa pd => Sys2Proof.Machine.execProgramProgData pa pd s
  | .eraseErasePre0 => Sys2Proof.Machine.execEraseErasePre0 s
  | .eraseErasePre1 => Sys2Proof.Machine.execEraseErasePre1 s
  | .eraseErasePre2 => Sys2Proof.Machine.execEraseErasePre2 s
  | .eraseErasePre3 => Sys2Proof.Machine.execEraseErasePre3 s
  | .eraseErasePre4 => Sys2Proof.Machine.execEraseErasePre4 s
  | .eraseSectorErase sa => Sys2Proof.Machine.execEraseSectorErase sa s
  | .resetReset j => Sys2Proof.Machine.execResetReset j s

end Sys2Proof.Machine
end

