-- ==== Sys2Proof/Machine/Fetch.lean ====
section
/-! DEFINITION. Which instruction the FCB runs next. It "fetches no instructions" (10_state.md R27, 20_memory.md R63):
the held request word or the sequencer's registers select it. And the state in which a given instruction is selected. -/

namespace Sys2Proof.Machine

/-- The cycle at `SEQ_IDX` of a fixed sequence (R27, R82). -/
def State.cycleAtSeqIdx (k : CycleKind) (s : State) : Option Instr :=
  match k, s.seqIdx.toNat with
  | .ident, 0 => some .identUnlock1
  | .ident, 1 => some .identUnlock2
  | .ident, 2 => some .identIdEntry
  | .ident, _ => none
  | .program, 0 => some .programUnlock1
  | .program, 1 => some .programUnlock2
  | .program, 2 => some .programProgSetup
  | .program, 3 => some (.programProgData (s.locAddr.setWidth 24) s.locVal)
  | .program, _ => none
  | .erase, 0 => some .eraseErasePre0
  | .erase, 1 => some .eraseErasePre1
  | .erase, 2 => some .eraseErasePre2
  | .erase, 3 => some .eraseErasePre3
  | .erase, 4 => some .eraseErasePre4
  | .erase, 5 => some (.eraseSectorErase (s.locAddr.setWidth 24))
  | .erase, _ => none
  | .reset, j => if j < s.cfg.resetSeq.length then some (.resetReset s.seqIdx) else none

/-- The read row of the instance's profile, at address `a` (R84). -/
def readInstr (cfg : Config) (a : Word) : Instr :=
  match cfg.profile with
  | .enc => .encRead a
  | .plain => .plainRead cfg.opRead a cfg.subRead

/-- The instruction of the FCB's next step: while an operation runs, the sequencer's next `Send`; else the held request
(R33). None when the next step runs no instruction: a completion, an illegal request, an idle FCB. -/
def State.nextInstr (s : State) : Option Instr :=
  if s.busy then
    match s.todo with
    | .cycle k => s.cycleAtSeqIdx k
    | .read => some (readInstr s.cfg s.cur)
    | .idle | .complete => none
  else
    match s.held with
    | some w => (decodeRequest w).toOption
    | none => none

/-- What the `Send` of an instruction hands to the transport: the profile's frame of its cycle, or its own frame, with
response length and timing parameter (30_encoding.md R84, R85). A request or a frame the CODEC builds sends nothing. -/
def exchangeOf (cfg : Config) (i : Instr) : Option Exchange :=
  match encode cfg i with
  | .cycle k _ cw => some ⟨cycleFrame cfg k (Cycle.ofWord cw), 0, cfg.tCycle⟩
  | .sent .cycle f => some ⟨f, 0, cfg.tCycle⟩
  | .sent .read f => some ⟨f, 4, cfg.tRead⟩
  | .request _ | .built _ _ => none

/-- What the FCB's next step hands to the transport, if it makes a `Send`. -/
def State.nextExchange (s : State) : Option Exchange := s.nextInstr.bind (exchangeOf s.cfg)

/-- A request word issued to an FCB that is not busy (R33). -/
def State.withRequest (w : Word) (s : State) : State :=
  { s with host := [], busy := false, todo := .idle, fsm := .idle, held := some w }

/-- The sequencer at cycle `pos` of a sequence of kind `k` in operation `op` (R27, R28). -/
def State.withCycle (op : BitVec 4) (f : Fsm) (k : CycleKind) (pos : BitVec 3) (s : State) : State :=
  { s with host := [], busy := true, op := op, fsm := f, todo := .cycle k, seqIdx := pos }

/-- READ_FLASH of the four bytes at `a`, before its read (43 R153). -/
def State.withRead (a : Word) (s : State) : State :=
  { s with
    host := [], busy := true, op := 0xA, fsm := .reading, aAddr := a, aLen := 4, out := [], byteIdx := 0
    cur := a, todo := .read }

/-- The configuration with the encrypting profile (R86). -/
def State.withEnc (s : State) : State := { s with cfg := { s.cfg with profile := .enc, encrypting := true } }

/-- The configuration with the plain profile (R87). -/
def State.withPlain (c : Config → Config) (s : State) : State :=
  { s with cfg := c { s.cfg with profile := .plain, encrypting := false } }

/-- The state in which the FCB's next step runs `i` (log entry 12). A frame row is placed as the frame the sequencer
sends next: a read of READ_FLASH, a program sequence's last cycle, or IDENTIFY's reset cycle. -/
def State.place (i : Instr) (s : State) : State :=
  match i with
  | .buildFrameG => s.withRequest 0x00000001
  | .buildFrameA3 => s.withRequest 0x00000002
  | .encryptByte => s.withRequest 0x00000003
  | .decryptByte => s.withRequest 0x00000004
  | .encryptBuffer => s.withRequest 0x00000005
  | .identify => s.withRequest 0x00000006
  | .eraseBlock => s.withRequest 0x00000007
  | .eraseChip => s.withRequest 0x00000008
  | .programByte => s.withRequest 0x00000009
  | .readFlash => s.withRequest 0x0000000A
  | .writeFlash => s.withRequest 0x0000000B
  | .writeFlashWhole => s.withRequest 0x0000001B
  | .shutdown => s.withRequest 0x0000000C
  | .frameG op p32 p16 =>
    { s with arg0 := op.setWidth 32, arg1 := p32, arg2 := p16.setWidth 32 }.withRequest 0x00000001
  | .frameA3 op a v sub =>
    { s with
      arg0 := op.setWidth 32, arg1 := a.setWidth 32, arg2 := v.setWidth 32
      arg3 := sub.setWidth 32 }.withRequest 0x00000002
  | .encRead a => s.withEnc.withRead a
  | .encCycleSub01 a d =>
    { s with cfg := { s.cfg with resetSeq := [⟨a, d⟩] } }.withEnc.withCycle 0x6 .ident .reset 0
  | .encCycleProgram a d =>
    { s with locAddr := a.setWidth 32, locVal := d }.withEnc.withCycle 0x9 .programming .program 3
  | .plainRead o a sub => (s.withPlain fun c => { c with opRead := o, subRead := sub }).withRead a
  | .plainCycle o a d sub =>
    { s with locAddr := a.setWidth 32, locVal := d }.withPlain (fun c => { c with opCycle := o, subCycle := sub })
      |>.withCycle 0x9 .programming .program 3
  | .identUnlock1 => s.withCycle 0x6 .ident .ident 0
  | .identUnlock2 => s.withCycle 0x6 .ident .ident 1
  | .identIdEntry => s.withCycle 0x6 .ident .ident 2
  | .programUnlock1 => s.withCycle 0x9 .programming .program 0
  | .programUnlock2 => s.withCycle 0x9 .programming .program 1
  | .programProgSetup => s.withCycle 0x9 .programming .program 2
  | .programProgData pa pd =>
    { s with locAddr := pa.setWidth 32, locVal := pd }.withCycle 0x9 .programming .program 3
  | .eraseErasePre0 => s.withCycle 0x7 .erasing .erase 0
  | .eraseErasePre1 => s.withCycle 0x7 .erasing .erase 1
  | .eraseErasePre2 => s.withCycle 0x7 .erasing .erase 2
  | .eraseErasePre3 => s.withCycle 0x7 .erasing .erase 3
  | .eraseErasePre4 => s.withCycle 0x7 .erasing .erase 4
  | .eraseSectorErase sa => { s with locAddr := sa.setWidth 32 }.withCycle 0x7 .erasing .erase 5
  | .resetReset j => s.withCycle 0x6 .ident .reset j

end Sys2Proof.Machine
end

