-- ==== Sys2Proof/Machine/Flags.lean ====
section
/-! DEFINITION. The status register's fields and codes (10_state.md R26, R29, R34; 60_exceptions.md R170), the register
numbers, and the host's view of every register (R39). -/

namespace Sys2Proof.Machine

/-- `DIALECT`'s two bits (R29). -/
def dialectCode : Dialect → BitVec 2
  | .none => 0
  | .typeA => 1
  | .typeB => 2

/-- `FSM`'s three bits (R34). -/
def Fsm.code : Fsm → BitVec 3
  | .idle => 0
  | .ident => 1
  | .erasing => 2
  | .erasePoll => 3
  | .programming => 4
  | .programPoll => 5
  | .reading => 6

/-- `OUTER`'s two bits (R26). -/
def Outer.code : Outer → BitVec 2
  | .none => 0
  | .eraseChip => 1
  | .writeFlash => 2

/-- `ERR`'s four bits (R170). -/
def ErrCode.code : ErrCode → BitVec 4
  | .ok => 0
  | .unsupportedChip => 1
  | .unsupportedRevision => 2
  | .secureInitFailed => 3
  | .timeout => 4
  | .transportError => 5
  | .payloadTooLarge => 6
  | .unimplemented => 7
  | .outOfRange => 8
  | .invalidArgument => 9
  | .notReady => 10
  | .illegalOp => 11

/-- A progress label's code (20_memory.md R58). -/
def Label.code : Label → Nat
  | .erase => 0
  | .read => 1

/-- The register numbers (R23 to R32). -/
def HostReg.number : HostReg → Nat
  | .req => 0x00
  | .arg0 => 0x04
  | .arg1 => 0x08
  | .arg2 => 0x0C
  | .arg3 => 0x10
  | .status => 0x14
  | .errInfo => 0x18
  | .chipId => 0x1C
  | .res0 => 0x20
  | .res1 => 0x24

/-- `STATUS` (R26): from bit 31 down, the reserved bits as 0, `ENC`, `OUTER`, `FSM`, `ERR`, `DIALECT`, `DONE`, `BUSY`. -/
def State.statusWord (s : State) : Word :=
  (0 : BitVec 18) ++ BitVec.ofBool s.cfg.encrypting ++ s.outer.code ++ s.fsm.code ++ s.err.code ++
    dialectCode s.dialect ++ BitVec.ofBool s.done ++ BitVec.ofBool s.busy

/-- What the host reads from a register (R39). -/
def State.readReg (s : State) : HostReg → Word
  | .req => s.reqLatch
  | .arg0 => s.arg0
  | .arg1 => s.arg1
  | .arg2 => s.arg2
  | .arg3 => s.arg3
  | .status => s.statusWord
  | .errInfo => s.errInfo
  | .chipId => s.chipId
  | .res0 => s.res0
  | .res1 => s.res1

/-- A host write of a register other than `REQ`: `ARG0..3` take it whole (R24), a read-only register ignores it (R39). -/
def State.writeReg (s : State) (r : HostReg) (v : Word) : State :=
  match r with
  | .arg0 => { s with arg0 := v }
  | .arg1 => { s with arg1 := v }
  | .arg2 => { s with arg2 := v }
  | .arg3 => { s with arg3 := v }
  | .req | .status | .errInfo | .chipId | .res0 | .res1 => s

end Sys2Proof.Machine
end

