-- ==== Sys2Proof/Machine/Run.lean ====
section
/-! DEFINITION. One step of the FCB (00_scope.md R7), one action of the host (10_state.md R39), and which of the two comes
next. -/

namespace Sys2Proof.Machine

/-- An illegal request word: accepted, and ended by `IllegalOp(REQ)` (60_exceptions.md R176). -/
def State.illegalRequest (w : Word) (s : State) : State := (s.latch w).raise .illegalOp w

/-- A step of the FCB (R7): it runs the next instruction; or it completes an operation; or it accepts and ends an illegal
request; or, idle, it "holds all its state, and sends nothing" (R195). A busy FCB with none of these stands in a state no
run reaches, and faults (log entry 18). -/
def fcbStep (s : State) : Host.Outcome State Fault Refusal :=
  match s.nextInstr with
  | some i => exec i s
  | none =>
    if s.busy then
      match s.todo with
      | .complete => .next s.completion
      | .idle | .cycle _ | .read => .fault .noSuchStep
    else
      match s.held with
      | some w => .next (s.illegalRequest w)
      | none => .next s

/-- The reset input (70_reset_and_hazards.md R200, R201): every FCB register takes R38's value, `CFG` stays. A held `REQ`
write stays held ("held, not dropped", R33; DESIGN CHOICE: log entry 6), and what the other agents hold or have received
is not the FCB's to change. -/
def State.resetInput (s : State) : State :=
  { State.resetWith s.cfg with
    held := s.held, dataIn := s.dataIn, host := s.host, readData := s.readData
    answers := s.answers, sends := s.sends, sent := s.sent, progress := s.progress }

/-- The host issues a `REQ` write with its `DATA_IN` (R23, R25); it is accepted in a step of the FCB (R33). -/
def State.issue (w : Word) (data : List Byte) (s : State) : State := { s with held := some w, dataIn := data }

/-- An access of the host. While its `REQ` write is held the host has no step (R33, 93 I9), so it makes no access at all, of
whatever register: the FCB steps, and the access waits. Hence an access after a `REQ` write comes after that request's
acceptance: it finds no result of an earlier request, and no `ARG` write changes the issued one (70 R212). DESIGN CHOICE
(log entry 6): R33 says only that no step completes the write; R24's "at any time" holds of a host that has a step. -/
def State.hostAccess (rest : List HostAction) (access : State → State) (s : State) : Host.Outcome State Fault Refusal :=
  if s.held = none then .next (access { s with host := rest }) else fcbStep s

/-- One step of the whole machine: the host's next action, or a step of the FCB when the host has none or waits. The reset
input is no access and waits for nothing (70 R201). -/
def machineStep (s : State) : Host.Outcome State Fault Refusal :=
  match s.host with
  | [] => fcbStep s
  | .run :: rest => fcbStep { s with host := rest }
  | .write .req v :: rest => s.hostAccess rest (·.issue v [])
  | .request w data :: rest => s.hostAccess rest (·.issue w data)
  | .write r v :: rest => s.hostAccess rest (·.writeReg r v)
  | .read r :: rest => s.hostAccess rest fun s => { s with readData := s.readReg r }
  | .reset :: rest => .next { s with host := rest }.resetInput

/-- A step for a configuration R21 admits; "a model refuses a configuration that breaks any of these conditions". -/
def configuredStep (s : State) : Host.Outcome State Fault Refusal :=
  if s.cfg.WF then machineStep s else .refused .illFormedConfig

/-- A state as `withFetchWord` sets it for a row's word: the place of the instruction it decodes to, or, for a word that
decodes to none, that word held as a request. -/
def State.placeWord (s : State) (nbits w : Nat) : State :=
  match decodeTableWord nbits w with
  | some i => s.place i
  | none => s.withRequest (BitVec.ofNat 32 w)

/-- The pseudo-operation `UNLOCK k` (30_encoding.md R94): its two cycles. -/
def pseudoUnlock (k : CycleKind) : List (CycleKind × Cycle) := [(k, unlock1), (k, unlock2)]

/-- The host actions of a request written with its operands in ARG order (R93): `ARG` writes, then the request. -/
def assemble (word : Word) (operands : List (HostReg × Word)) (data : List Byte) : List HostAction :=
  operands.map (fun p => .write p.1 p.2) ++ [.request word data]

/-- The pseudo-operation `ERASE_ALL budget`: `ERASE_CHIP 0x0, budget` (R94). -/
def pseudoEraseAll (budget : Word) : List HostAction := assemble 0x00000008 [(.arg0, 0), (.arg2, budget)] []

/-- The pseudo-operation `WRITE_FLASH.WHOLE a, l, b`: WRITE_FLASH with `REQ.WHOLE = 1` (R94). -/
def pseudoWriteFlashWhole (a l b : Word) (data : List Byte) : List HostAction :=
  assemble 0x0000001B [(.arg0, a), (.arg1, l), (.arg2, b)] data

end Sys2Proof.Machine
end

