-- ==== Sys2Proof/Machine/Step.lean ====
section
/-! DEFINITION. The step function and the placing of an instruction word. -/

namespace Sys2Proof.Machine

/-- One step of the machine. -/
def step : State → Host.Outcome State Fault Refusal := fun s => configuredStep s

/-- `s` with the instruction of an opcode-table word standing where `step` takes its next instruction from. -/
def State.withFetchWord (s : State) (nbits w : Nat) : State := s.placeWord nbits w

end Sys2Proof.Machine
end

