-- ==== Sys2Proof/Machine/ChipDouble.lean ====
section
/-! DEFINITION. The reference chip test double of 95_test_vectors.md section 0, an environment for the FCB and no part of
its State ("It is not part of the FCB, and no FCB rule depends on it"; log entry 24), and a transport that carries
frames to it. The §8 properties of 43_flash_programming.md R156 are about the FCB together with such a chip. -/

namespace Sys2Proof.Machine

/-- The double: `mem` holds the raw bytes, address 0 first. -/
structure Chip where
  encrypting : Bool
  broken     : Bool
  id         : Word
  mem        : List Byte
  commands   : List Cycle
  idmode     : Bool
  progarm    : Bool
  erasearm   : Bool
deriving DecidableEq, Repr

/-- The chip's write path, "re-encrypts on the way in". -/
def Chip.store (c : Chip) (d : Byte) : Byte := if c.encrypting then encryptByte d else d

/-- The chip's read path, "the chip's own decrypted bytes"; a byte past the capacity counts as 0xFF. -/
def Chip.load (c : Chip) (a : Nat) : Byte :=
  let raw := c.mem.getD a 0xFF
  if c.encrypting then decryptByte raw else raw

/-- The three command lists the double knows. DESIGN CHOICE (log entry 24): a list takes effect when the whole command
state is that list. -/
def Chip.command (c : Chip) (l : List Cycle) : Chip :=
  if l = [unlock1, unlock2, idEntry] then { c with commands := [], idmode := true }
  else if l = [unlock1, unlock2, progSetup] then { c with commands := [], progarm := true }
  else if l = [defaultPreamble.c0, defaultPreamble.c1, defaultPreamble.c2, defaultPreamble.c3, defaultPreamble.c4] then
    { c with commands := [], erasearm := true }
  else { c with commands := l }

/-- The double's reaction to a cycle `a:d`. DESIGN CHOICE (log entry 24): the `0x30` cycle clears `erasearm`, also of a
broken double; 95 section 0 says so of `progarm` only. -/
def Chip.cycle (c : Chip) (y : Cycle) : Chip :=
  let a := y.addr.toNat
  if c.progarm then { c with progarm := false, mem := c.mem.set a (c.mem.getD a 0xFF &&& c.store y.data) }
  else if c.erasearm && y.data == 0x30 then
    { c with
      erasearm := false
      mem := if c.broken then c.mem else c.mem.mapIdx fun i b => if i / 16 = a / 16 then 0xFF else b }
  else if y.data = 0xF0 then { c with idmode := false }
  else c.command (c.commands ++ [y])

/-- The double's answer to a read of `a`. -/
def Chip.read (c : Chip) (a : Nat) : Reply :=
  if c.idmode then
    ⟨c.id.extractLsb' 0 8, c.id.extractLsb' 8 8, c.id.extractLsb' 16 8, c.id.extractLsb' 24 8⟩
  else ⟨c.load a, c.load (a + 1), c.load (a + 2), c.load (a + 3)⟩

/-- A frame reaching the double through a transport that does not fail: response length 4 is a read, 0 a cycle. -/
def Chip.exchange (c : Chip) (x : Exchange) : Answer × Chip :=
  if x.respLen = 4 then (.ok (c.read (x.frame.f1 ++ x.frame.f2 ++ x.frame.f3 ++ x.frame.f4).toNat), c)
  else (.ok default, c.cycle ⟨x.frame.f1 ++ x.frame.f2 ++ x.frame.f3, x.frame.f4⟩)

/-- The FCB and a chip behind its transport. -/
structure Bench where
  fcb  : State
  chip : Chip
deriving DecidableEq, Repr

/-- The answer the chip has for the FCB's next `Send`, and the chip after it. -/
def Bench.answer (b : Bench) : List Answer × Chip :=
  match b.fcb.nextExchange with
  | some x => ([(b.chip.exchange x).1], (b.chip.exchange x).2)
  | none => ([], b.chip)

/-- A step of the FCB with the chip answering; the chip sees a frame only when the step sends one. -/
def Bench.step (b : Bench) : Host.Outcome Bench Fault Refusal :=
  match Sys2Proof.Machine.step { b.fcb with answers := b.answer.1 } with
  | .next t => .next ⟨t, if t.sends = b.fcb.sends then b.chip else b.answer.2⟩
  | .fault f => .fault f
  | .refused r => .refused r

/-- `n` steps of the FCB with the chip answering. -/
def Bench.run : Nat → Bench → Host.Outcome Bench Fault Refusal
  | 0, b => .next b
  | n + 1, b =>
    match b.step with
    | .next b' => b'.run n
    | .fault f => .fault f
    | .refused r => .refused r

end Sys2Proof.Machine
end

