-- ==== Sys2Proof/Safety.lean ====
section
/-! DEFINITION. The invariants of the machine, in the terms claims use: what the host can rely on in the registers
(`HostInv`), where in an operation the sequencer can stand (`SeqInv`), and both for a configuration R21 admits (`Inv`). A
run is safe when every step of it answers a next state: the spec's errors are next states (60_exceptions.md R180). -/

namespace Sys2Proof.Machine

/-- What the host-visible registers promise between two steps (10_state.md R26, R29 to R34; 60_exceptions.md R179, R180;
70_reset_and_hazards.md R212). -/
structure State.HostInv (s : State) : Prop where
  /-- `FSM = IDLE` exactly when no operation is in progress (R34). -/
  idle_iff : s.busy = false ↔ s.fsm = .idle
  /-- The sequencer has a next step exactly while an operation is in progress. -/
  todo_iff : s.busy = false ↔ s.todo = .idle
  /-- `OUTER` names a composite operation in progress only (R26). -/
  outer_busy : s.outer ≠ .none → s.busy = true
  /-- `DONE` and `ERR` were cleared at acceptance and stay so while busy (R26, R33). -/
  busy_cleared : s.busy = true → s.done = false ∧ s.err = .ok
  /-- While busy, and after an error, the results are zero and empty (R30, R180, R212; `CHIPID` apart: log entry 29). -/
  no_result : s.busy = true ∨ s.err ≠ .ok → s.res0 = 0 ∧ s.res1 = 0 ∧ s.dataOut = []
  /-- `ERRINFO` is 0 without an error (R32). -/
  info_ok : s.err = .ok → s.errInfo = 0
  /-- An error stands only after the end of its operation (R180). -/
  err_done : s.err ≠ .ok → s.done = true
  /-- `CHIPID` "is 0 while `DIALECT = NONE`" (R31). -/
  chip_none : s.dialect = .none → s.chipId = 0
  /-- "No FCB rule produces `ERR` = 2, 3, 6" (R179). -/
  err_raised : s.err ≠ .unsupportedRevision ∧ s.err ≠ .secureInitFailed ∧ s.err ≠ .payloadTooLarge

/-- Inside `EraseBody` (43 R144): its block lies in the flash window, and the next step is one of its six cycles or a poll
read of one of its aligned words within the budget. -/
def State.EraseStage (s : State) : Prop :=
  s.locAddr.toNat < s.cfg.capacity ∧ s.blockEnd ≤ s.cfg.capacity ∧
  ((s.fsm = .erasing ∧ s.todo = .cycle .erase ∧ s.seqIdx.toNat < 6) ∨
   (s.fsm = .erasePoll ∧ s.todo = .read ∧ s.cur.toNat % 4 = 0 ∧ s.locAddr.toNat ≤ s.cur.toNat ∧
      s.cur.toNat < s.blockEnd ∧ s.att.toNat < s.aBudget.toNat))

/-- Inside `ProgramBody` (R145): its byte lies in the flash window, and the next step is one of its four cycles or a poll
read of the byte within the budget. -/
def State.ProgramStage (s : State) : Prop :=
  s.locAddr.toNat < s.cfg.capacity ∧
  ((s.fsm = .programming ∧ s.todo = .cycle .program ∧ s.seqIdx.toNat < 4) ∨
   (s.fsm = .programPoll ∧ s.todo = .read ∧ s.cur = s.locAddr ∧ s.att.toNat < s.aBudget.toNat))

/-- Inside `EraseChipBody(start)` (R146): block `BLK_IDX` of the plan, behind the bytes already erased. -/
def State.PlanStage (start : Nat) (s : State) : Prop :=
  s.cfg.eraseChipPlan[s.blkIdx.toNat]? = some s.locLen.toNat ∧
  s.doneBytes.toNat = (s.cfg.eraseChipPlan.take s.blkIdx.toNat).sum ∧
  s.locAddr.toNat = start + s.doneBytes.toNat

/-- Only the completion is left, `FSM` still at the state of the last `Send`. -/
def State.Ending (f : Fsm) (s : State) : Prop := s.fsm = f ∧ s.todo = .complete

/-- IDENTIFY in progress (42 R130). -/
def State.InIdentify (s : State) : Prop :=
  s.dialect = .none ∧ s.outer = .none ∧ s.fsm = .ident ∧
  ((s.todo = .cycle .ident ∧ s.seqIdx.toNat < 3) ∨
   (s.todo = .read ∧ s.cur = s.cfg.idReadAddr) ∨
   (s.todo = .cycle .reset ∧ s.seqIdx.toNat < s.cfg.resetSeq.length) ∨
   (s.todo = .complete ∧ s.cfg.isSupported s.locId = true))

/-- ERASE_BLOCK in progress (43 R150). -/
def State.InEraseBlock (s : State) : Prop :=
  s.outer = .none ∧ s.aAddr.toNat < s.cfg.capacity ∧ s.windowEnd ≤ s.cfg.capacity ∧ 1 ≤ s.aBudget.toNat ∧
  s.locAddr = s.aAddr ∧ s.locLen = s.aLen ∧
  (s.EraseStage ∨ s.Ending .erasing ∨ s.Ending .erasePoll)

/-- ERASE_CHIP in progress (R151). -/
def State.InEraseChip (s : State) : Prop :=
  s.outer = .eraseChip ∧ s.aAddr.toNat < s.cfg.capacity ∧ s.aAddr.toNat + s.cfg.planTotal ≤ s.cfg.capacity ∧
  1 ≤ s.aBudget.toNat ∧
  ((s.PlanStage s.aAddr.toNat ∧ s.EraseStage) ∨ s.Ending .erasing ∨ s.Ending .erasePoll)

/-- PROGRAM_BYTE in progress (R152). -/
def State.InProgramByte (s : State) : Prop :=
  s.outer = .none ∧ s.aAddr.toNat < s.cfg.capacity ∧ 1 ≤ s.aBudget.toNat ∧
  s.locAddr = s.aAddr ∧ s.locVal = s.programValue ∧
  (s.ProgramStage ∨ s.Ending .programPoll)

/-- READ_FLASH in progress (R153): `OUT` holds the bytes of the words read so far. -/
def State.InReadFlash (s : State) : Prop :=
  s.outer = .none ∧ s.windowEnd ≤ s.cfg.capacity ∧ s.fsm = .reading ∧
  s.out.length = min s.byteIdx.toNat s.aLen.toNat ∧
  ((s.todo = .read ∧ s.byteIdx.toNat < s.aLen.toNat ∧ s.cur = s.aAddr + s.byteIdx) ∨
   (s.todo = .complete ∧ s.aLen.toNat ≤ s.byteIdx.toNat))

/-- WRITE_FLASH in progress (R154): a plan block, a block of the minimal erase, a byte, or the end. -/
def State.InWriteFlash (s : State) : Prop :=
  s.outer = .writeFlash ∧ s.windowEnd ≤ s.cfg.capacity ∧ 1 ≤ s.aBudget.toNat ∧
  s.aData.length = s.aLen.toNat ∧ 0 < s.aLen.toNat ∧
  ((s.aWhole = true ∧ s.PlanStage 0 ∧ s.EraseStage) ∨
   (s.aWhole = false ∧ s.locAddr.toNat = s.minimalBlock s.blkIdx.toNat ∧ s.locAddr.toNat < s.windowEnd ∧
      s.locLen.toNat = s.cfg.eraseBlockSize ∧ s.EraseStage) ∨
   (s.byteIdx.toNat < s.aLen.toNat ∧ s.locAddr = s.aAddr + s.byteIdx ∧
      s.aData[s.byteIdx.toNat]?.map s.cfg.tx = some s.locVal ∧ s.ProgramStage) ∨
   s.Ending .programPoll)

/-- Where an operation in progress stands (R28, R33): by `OP`, and for a flash operation with `DIALECT = TYPEA`, which its
acceptance checked and nothing changes before its end (R29, R181). -/
def State.InOperation (s : State) : Prop :=
  (s.op = 0x6 ∧ s.InIdentify) ∨
  (s.dialect = .typeA ∧
    ((s.op = 0x7 ∧ s.InEraseBlock) ∨ (s.op = 0x8 ∧ s.InEraseChip) ∨ (s.op = 0x9 ∧ s.InProgramByte) ∨
     (s.op = 0xA ∧ s.InReadFlash) ∨ (s.op = 0xB ∧ s.InWriteFlash)))

/-- A busy FCB stands somewhere in the operation of `OP`. -/
def State.SeqInv (s : State) : Prop := s.busy = true → s.InOperation

/-- The invariant every step keeps. -/
structure State.Inv (s : State) : Prop where
  configured : s.cfg.WF
  host : s.HostInv
  seq : s.SeqInv

/-- The step is safe: it answers a next state. -/
def State.StepsSafely (s : State) : Prop := ∃ t, step s = .next t

/-! The words of the statements: the effects R33, R180, R30 and R9 write out, register by register. -/

/-- "On acceptance, in this order" (R33): what latching `w` leaves, everything else as before. For pure
requests too: log entry 28. `CHIPID` stays: log entry 29. -/
def State.afterAcceptance (w : Word) (s : State) : State :=
  { s with
    reqLatch := w, done := false, err := .ok, errInfo := 0, res0 := 0, res1 := 0, dataOut := []
    op := w.setWidth 4, aAddr := s.arg0, aLen := s.arg1, aBudget := s.arg2, aWhole := w.getLsbD 4, aData := s.dataIn
    held := none }

/-- What the abort leaves (60_exceptions.md R180), everything else as before. -/
def State.afterAbort (e : ErrCode) (info : Word) (s : State) : State :=
  { s with
    fsm := .idle, outer := .none, seqIdx := 0, err := e, errInfo := info, res0 := 0, res1 := 0, dataOut := []
    busy := false, done := true, todo := .idle }

/-- What a successful end leaves (R26, R30), everything else as before. -/
def State.afterSuccess (r0 r1 : Word) (s : State) : State :=
  { s with res0 := r0, res1 := r1, busy := false, done := true, todo := .idle }

/-- What a successful end of a sequencer operation leaves (43 R150 to R154), everything else as before. -/
def State.afterOperation (r0 r1 : Word) (s : State) : State :=
  { s with outer := .none, fsm := .idle, res0 := r0, res1 := r1, busy := false, done := true, todo := .idle }

/-- The traffic of one `Send(f, n, t)` (00_scope.md R9), everything else as before. -/
def State.afterSend (f : Frame) (n t : Nat) (s : State) : State :=
  { s with answers := s.answers.tail, sends := s.sends + 1, sent := s.sent ++ [⟨f, n, t⟩] }

/-- "Flash operation" (60_exceptions.md R181). -/
def flashOperations : List Instr := [.eraseBlock, .eraseChip, .programByte, .readFlash, .writeFlash, .writeFlashWhole]

/-- The window conditions of R181, check 5, on the operand registers. -/
def inRange (i : Instr) (s : State) : Prop :=
  match i with
  | .eraseBlock => s.arg0.toNat < s.cfg.capacity ∧ s.arg0.toNat + s.arg1.toNat ≤ s.cfg.capacity
  | .eraseChip => s.arg0.toNat < s.cfg.capacity ∧ s.arg0.toNat + s.cfg.eraseChipPlan.sum ≤ s.cfg.capacity
  | .programByte => s.arg0.toNat < s.cfg.capacity
  | .readFlash | .writeFlash | .writeFlashWhole => s.arg0.toNat + s.arg1.toNat ≤ s.cfg.capacity
  | _ => True

/-- R181's checks 2 to 5 on a legal request, "the first that fails raises its error": the error `e` with info value `v` is
raised. -/
inductive Rejects (i : Instr) (s : State) : ErrCode → Word → Prop where
  | notReady : i ∈ flashOperations → s.dialect = .none → Rejects i s .notReady 0
  | unimplemented : i ∈ flashOperations → s.dialect = .typeB → Rejects i s .unimplemented 0
  | budget :
      i ∈ [Instr.eraseBlock, .eraseChip, .programByte, .writeFlash, .writeFlashWhole] → s.dialect = .typeA →
      s.arg2 = 0 → Rejects i s .invalidArgument 0
  | address : i = .buildFrameA3 → s.arg1.extractLsb' 24 8 ≠ 0 → Rejects i s .invalidArgument s.arg1
  | buffer : i = .encryptBuffer → s.dataIn.length ≠ s.arg1.toNat → Rejects i s .invalidArgument s.arg1
  | payload :
      i ∈ [Instr.writeFlash, .writeFlashWhole] → s.dialect = .typeA → s.arg2 ≠ 0 →
      s.dataIn.length ≠ s.arg1.toNat → Rejects i s .invalidArgument s.arg1
  | range :
      i ∈ flashOperations → s.dialect = .typeA → (i ≠ .readFlash → s.arg2 ≠ 0) →
      (i ∈ [Instr.writeFlash, .writeFlashWhole] → s.dataIn.length = s.arg1.toNat) →
      ¬ inRange i s → Rejects i s .outOfRange s.arg0

/-- A row that makes a `Send`, with the address a failure of it reports (60_exceptions.md R173). -/
def failureAddress (cfg : Config) : Instr → Option Word
  | .encRead a => some a
  | .plainRead _ a _ => some a
  | .encCycleSub01 a _ => some (a.setWidth 32)
  | .encCycleProgram a _ => some (a.setWidth 32)
  | .plainCycle _ a _ _ => some (a.setWidth 32)
  | .identUnlock1 => some 0x00005555
  | .identUnlock2 => some 0x00002AAA
  | .identIdEntry => some 0x00005555
  | .programUnlock1 => some 0x00005555
  | .programUnlock2 => some 0x00002AAA
  | .programProgSetup => some 0x00005555
  | .programProgData pa _ => some (pa.setWidth 32)
  | .eraseErasePre0 => some (cfg.erasePreamble.c0.addr.setWidth 32)
  | .eraseErasePre1 => some (cfg.erasePreamble.c1.addr.setWidth 32)
  | .eraseErasePre2 => some (cfg.erasePreamble.c2.addr.setWidth 32)
  | .eraseErasePre3 => some (cfg.erasePreamble.c3.addr.setWidth 32)
  | .eraseErasePre4 => some (cfg.erasePreamble.c4.addr.setWidth 32)
  | .eraseSectorErase sa => some (sa.setWidth 32)
  | .resetReset j => cfg.resetSeq[j.toNat]?.map fun c => c.addr.setWidth 32
  | .buildFrameG => none
  | .buildFrameA3 => none
  | .encryptByte => none
  | .decryptByte => none
  | .encryptBuffer => none
  | .identify => none
  | .eraseBlock => none
  | .eraseChip => none
  | .programByte => none
  | .readFlash => none
  | .writeFlash => none
  | .writeFlashWhole => none
  | .shutdown => none
  | .frameG _ _ _ => none
  | .frameA3 _ _ _ _ => none

/-- The two read rows, each with its address and the frame it sends (30_encoding.md R86, R87). -/
inductive IsRead : Instr → Word → Frame → Prop where
  | enc (a : Word) : IsRead (.encRead a) a (layoutG 0xB7 a 0x2200)
  | plain (o : Byte) (a : Word) (sub : Half) : IsRead (.plainRead o a sub) a (layoutG o a sub)

/-- "All-ones": every byte of the response is 0xFF after `RX` (43 R141). -/
def ReadsErased (cfg : Config) (r : Reply) : Prop :=
  cfg.rx r.r0 = 0xFF ∧ cfg.rx r.r1 = 0xFF ∧ cfg.rx r.r2 = 0xFF ∧ cfg.rx r.r3 = 0xFF

/-- The aligned words of the block behind the one polled now (R144). -/
def State.wordsLeft (s : State) : List Nat :=
  alignedWords (s.cur.toNat + 1) (s.locAddr.toNat + s.locLen.toNat - (s.cur.toNat + 1))

/-- The row `i` makes the last `Send` of an `EraseBody`, and `u` is the state after it: a poll read of the last aligned
word that reads erased, or the sector erase cycle of a block without an aligned word (R144). -/
inductive BlockEnding (s : State) : Instr → State → Prop where
  | polled (r : Reply) (i : Instr) (a : Word) (f : Frame) :
      s.nextAnswer = .ok r → IsRead i a f → s.fsm = .erasePoll → ReadsErased s.cfg r → s.wordsLeft = [] →
      BlockEnding s i (s.afterSend f 4 s.cfg.tRead)
  | noWord (r : Reply) (sa : Addr24) :
      s.nextAnswer = .ok r → alignedWords sa.toNat s.locLen.toNat = [] →
      BlockEnding s (.eraseSectorErase sa)
        { s.afterSend (cycleFrame s.cfg .erase ⟨sa, 0x30⟩) 0 s.cfg.tCycle with seqIdx := 6, locAddr := sa.setWidth 32 }

/-- WRITE_FLASH at the first byte `d` of its payload (R154, R145). -/
def State.atFirstByte (d : Byte) (s : State) : State :=
  { s with
    byteIdx := 0, cur := s.aAddr, fsm := .programming, seqIdx := 0, locAddr := s.aAddr, locVal := s.cfg.tx d
    todo := .cycle .program }

end Sys2Proof.Machine
end

