-- ==== Sys2Proof/Certificates/Slice0/Obligations.lean ====
section
/-! DEFINITION. The statements for the provers, from the numbered rules of spec/. -/

open Sys2Proof Sys2Proof.Machine

/-! ## Encodings -/

/-- Every well-formed instruction, of every row and with every operand, is read back from its word (30_encoding.md). -/
def Obligations.DecodeInvertsEncode : Prop :=
  ∀ (cfg : Config) (i : Instr), i.wf cfg = true → decode cfg (encode cfg i) = .ok i

/-- A word in its place has one meaning: whatever is decoded is encoded by that very word (R82, R90). -/
def Obligations.EncodeInvertsDecode : Prop :=
  ∀ (cfg : Config) (c : Code) (i : Instr), decode cfg c = .ok i → encode cfg i = c

/-- R90: which request words are legal, and the operation of each of the 13. -/
def Obligations.ThirteenRequestWordsAreLegal : Prop :=
  (∀ w : Word, (∃ i, decodeRequest w = .ok i) ↔
    (w.extractLsb' 5 27 = 0 ∧ 0x1 ≤ (w.extractLsb' 0 4).toNat ∧ (w.extractLsb' 0 4).toNat ≤ 0xC ∧
      (w.getLsbD 4 = true → (w.extractLsb' 0 4).toNat = 0xB))) ∧
  (∀ (w : Word) (i : Instr), decodeRequest w = .ok i ↔
    (w, i) ∈ [((0x00000001 : Word), Instr.buildFrameG), (0x00000002, .buildFrameA3), (0x00000003, .encryptByte),
      (0x00000004, .decryptByte), (0x00000005, .encryptBuffer), (0x00000006, .identify), (0x00000007, .eraseBlock),
      (0x00000008, .eraseChip), (0x00000009, .programByte), (0x0000000A, .readFlash), (0x0000000B, .writeFlash),
      (0x0000000C, .shutdown), (0x0000001B, .writeFlashWhole)])

/-- Words written out from the encodings, one of each family, decode to the instruction they stand for (R76 to R90). -/
def Obligations.WrittenOutWordsDecode : Prop :=
  ∀ cfg : Config, cfg.profile = .enc →
    decode cfg (.request 0b00000000000000000000000000011011) = .ok .writeFlashWhole ∧
    decode cfg (.cycle .ident 2 0b00000000010101010101010110010000) = .ok .identIdEntry ∧
    decode cfg (.cycle .program 3 0b00000000000000000001001001111010) = .ok (.programProgData 0x000012 0x7A) ∧
    decode cfg (.cycle .erase 5 0b00000000000100000000000000110000) = .ok (.eraseSectorErase 0x001000) ∧
    decode cfg (.built .g ⟨0xB7, 0x00, 0x01, 0x23, 0x45, 0x22, 0x00, 0x00⟩) = .ok (.frameG 0xB7 0x00012345 0x2200) ∧
    decode cfg (.built .a3 ⟨0xD4, 0x00, 0x55, 0x55, 0xAA, 0x03, 0x00, 0x00⟩) = .ok (.frameA3 0xD4 0x005555 0xAA 0x0300) ∧
    decode cfg (.sent .read ⟨0xB7, 0x00, 0xFF, 0xFF, 0xFC, 0x22, 0x00, 0x00⟩) = .ok (.encRead 0x00FFFFFC) ∧
    decode cfg (.sent .cycle ⟨0xD4, 0x00, 0x10, 0x00, 0x30, 0x01, 0x00, 0x00⟩) = .ok (.encCycleSub01 0x001000 0x30) ∧
    decode cfg (.sent .cycle ⟨0xD4, 0x00, 0x00, 0xFF, 0x00, 0x03, 0x00, 0x00⟩) = .ok (.encCycleProgram 0x0000FF 0x00)

/-- R74: "The two layouts relate exactly", and "Both layouts are kept as distinct operations": the same bytes decode to
different instructions by the operation that built them. -/
def Obligations.LayoutA3IsLayoutG : Prop :=
  (∀ (op : Byte) (a : Addr24) (v : Byte) (s : Half),
    layoutA3 op a v s = layoutG op ((a.setWidth 32 <<< 8) ||| v.setWidth 32) s) ∧
  (∀ (cfg : Config) (f : Frame), f.f7 = 0 → ∃ i j, i ≠ j ∧
    decode cfg (.built .g f) = .ok i ∧ decode cfg (.built .a3 f) = .ok j)

/-- R88: "distinct inputs give distinct frames" within one layout, for either layout and for a profile's frames. -/
def Obligations.FrameConstructionIsInjective : Prop :=
  (∀ op p32 p16 op' p32' p16', layoutG op p32 p16 = layoutG op' p32' p16' → op = op' ∧ p32 = p32' ∧ p16 = p16') ∧
  (∀ op a v s op' a' v' s', layoutA3 op a v s = layoutA3 op' a' v' s' → op = op' ∧ a = a' ∧ v = v' ∧ s = s') ∧
  (∀ op p32 p16, (layoutG op p32 p16).w64 = op ++ p32 ++ p16 ++ (0 : Byte)) ∧
  (∀ op a v s, (layoutA3 op a v s).w64 = op ++ a ++ v ++ s ++ (0 : Byte)) ∧
  (∀ cfg k c c', cycleFrame cfg k c = cycleFrame cfg k c' → c = c') ∧
  (∀ cfg a a', readFrame cfg a = readFrame cfg a' → a = a')

/-- R75: no input reaches offset 7 of either layout, a frame with another value there is none of the FCB's, and no step
sends one (the record of sent frames: log entry 19). -/
def Obligations.ReservedFrameByteIsZero : Prop :=
  (∀ op p32 p16, (layoutG op p32 p16).f7 = 0) ∧ (∀ op a v s, (layoutA3 op a v s).f7 = 0) ∧
  (∀ cfg u f, f.f7 ≠ 0 → decode cfg (.sent u f) = .error .reservedByte) ∧
  (∀ s t, step s = .next t → (∀ x ∈ s.sent, x.frame.f7 = 0) → ∀ x ∈ t.sent, x.frame.f7 = 0)

/-- R86, R87: the frames of the two profiles, byte by byte. -/
def Obligations.ProfileFrames : Prop :=
  ∀ cfg : Config,
    (cfg.profile = .enc →
      (∀ a : Word, (readFrame cfg a).bytes = [0xB7, a.extractLsb' 24 8, a.extractLsb' 16 8, a.extractLsb' 8 8,
        a.extractLsb' 0 8, 0x22, 0x00, 0x00]) ∧
      (∀ (a : Addr24) (d : Byte),
        (cycleFrame cfg .program ⟨a, d⟩).bytes =
          [0xD4, a.extractLsb' 16 8, a.extractLsb' 8 8, a.extractLsb' 0 8, d, 0x03, 0x00, 0x00] ∧
        ∀ k ∈ [CycleKind.erase, .ident, .reset], (cycleFrame cfg k ⟨a, d⟩).bytes =
          [0xD4, a.extractLsb' 16 8, a.extractLsb' 8 8, a.extractLsb' 0 8, d, 0x01, 0x00, 0x00])) ∧
    (cfg.profile = .plain →
      (∀ a : Word, (readFrame cfg a).w64 = cfg.opRead ++ a ++ cfg.subRead ++ (0 : Byte)) ∧
      (∀ (a : Addr24) (d : Byte) (k : CycleKind),
        (cycleFrame cfg k ⟨a, d⟩).w64 = cfg.opCycle ++ a ++ d ++ cfg.subCycle ++ (0 : Byte)))

/-! ## The byte transform -/

/-- R120, R121: where each input bit goes, and the XOR with 0x98 after or before. 00_scope.md R10: the wire directions. -/
def Obligations.TransformBitMaps : Prop :=
  (∀ b : Byte,
    (∀ p ∈ [(0, 5), (1, 4), (2, 1), (3, 3), (4, 6), (5, 7), (6, 0), (7, 2)],
      (encryptByte b ^^^ 0x98).getLsbD p.2 = b.getLsbD p.1) ∧
    (∀ p ∈ [(0, 6), (1, 2), (2, 7), (3, 3), (4, 1), (5, 0), (6, 4), (7, 5)],
      (decryptByte b).getLsbD p.2 = (b ^^^ 0x98).getLsbD p.1)) ∧
  (∀ (c : Config) (b : Byte),
    (c.encrypting = true → c.rx b = encryptByte b ∧ c.tx b = decryptByte b) ∧
    (c.encrypting = false → c.rx b = b ∧ c.tx b = b))

/-- R125: the inverse law, no fixed point, linearity. -/
def Obligations.TransformInverseLaw : Prop :=
  (∀ x : Byte, decryptByte (encryptByte x) = x ∧ encryptByte (decryptByte x) = x) ∧
  (∀ x : Byte, encryptByte x ≠ x ∧ decryptByte x ≠ x) ∧
  (∀ x y : Byte, encryptByte (x ^^^ y) = encryptByte x ^^^ encryptByte y ^^^ 0x98)

/-! ## Requests that complete in their acceptance

That the acceptance latches `OP` and `A_*` for a pure request too, and its abort clears `SEQ_IDX` (R33 and R180 beside R112
and R28), is log entry 28's reading, DEDUCED: it stands in every statement of this section, in `afterAcceptance` and
`afterAbort`. That the acceptance keeps `CHIPID` (R31 beside R212) is log entry 29's, DEDUCED; that an end leaves the
model's `todo` at nothing is log entry 27's. -/

/-- 40_codec.md R110: BUILD_FRAME_G in every state that accepts it; all it writes, and nothing else. (Latching: log entry
28.) -/
def Obligations.BuildFrameG : Prop :=
  ∀ s : State, decode s.cfg (.request 0x00000001) = .ok .buildFrameG ∧
    (s.busy = false → exec .buildFrameG s = .next ((s.afterAcceptance 0x00000001).afterSuccess
      (s.arg0.extractLsb' 0 8 ++ s.arg1.extractLsb' 8 24)
      (s.arg1.extractLsb' 0 8 ++ s.arg2.extractLsb' 0 16 ++ (0 : Byte))))

/-- R111: BUILD_FRAME_A3, and its `InvalidArgument` on an address wider than 24 bits. (Latching, and the abort's `SEQ_IDX`:
log entry 28.) -/
def Obligations.BuildFrameA3 : Prop :=
  ∀ s : State, decode s.cfg (.request 0x00000002) = .ok .buildFrameA3 ∧
    (s.busy = false → s.arg1.extractLsb' 24 8 = 0 →
      exec .buildFrameA3 s = .next ((s.afterAcceptance 0x00000002).afterSuccess
        (s.arg0.extractLsb' 0 8 ++ s.arg1.extractLsb' 0 24)
        (s.arg2.extractLsb' 0 8 ++ s.arg3.extractLsb' 0 16 ++ (0 : Byte)))) ∧
    (s.busy = false → s.arg1.extractLsb' 24 8 ≠ 0 →
      exec .buildFrameA3 s = .next ((s.afterAcceptance 0x00000002).afterAbort .invalidArgument s.arg1))

/-- R72, R73 as results: a frame row leaves its frame word in `RES0` and `RES1`, through the request that builds it
(log entry 9: the reading of the row as that request is the model's; latching: log entry 28). -/
def Obligations.FrameRowsGiveTheirWord : Prop :=
  ∀ (s : State) (op : Byte), s.busy = false →
    (∀ (p32 : Word) (p16 : Half), exec (.frameG op p32 p16) s = .next
      (({ s with arg0 := op.setWidth 32, arg1 := p32, arg2 := p16.setWidth 32 }.afterAcceptance 0x00000001).afterSuccess
        ((op ++ p32 ++ p16 ++ (0 : Byte)).extractLsb' 32 32) ((op ++ p32 ++ p16 ++ (0 : Byte)).extractLsb' 0 32))) ∧
    (∀ (a : Addr24) (v : Byte) (sub : Half), exec (.frameA3 op a v sub) s = .next
      (({ s with arg0 := op.setWidth 32, arg1 := a.setWidth 32, arg2 := v.setWidth 32
                 arg3 := sub.setWidth 32 }.afterAcceptance 0x00000002).afterSuccess
        ((op ++ a ++ v ++ sub ++ (0 : Byte)).extractLsb' 32 32) ((op ++ a ++ v ++ sub ++ (0 : Byte)).extractLsb' 0 32)))

/-- 41_transform.md R122, R123: ENCRYPT_BYTE and DECRYPT_BYTE, whatever `ENCRYPTING` and `DIALECT` are. (Latching: log
entry 28.) -/
def Obligations.ByteTransformRequests : Prop :=
  ∀ s : State, s.busy = false →
    exec .encryptByte s = .next ((s.afterAcceptance 0x00000003).afterSuccess
      ((0 : BitVec 24) ++ encryptByte (s.arg0.extractLsb' 0 8)) 0) ∧
    exec .decryptByte s = .next ((s.afterAcceptance 0x00000004).afterSuccess
      ((0 : BitVec 24) ++ decryptByte (s.arg0.extractLsb' 0 8)) 0)

/-- R124: ENCRYPT_BUFFER, byte by byte, and its `InvalidArgument` on a payload of another length. (Latching, and the abort's
`SEQ_IDX`: log entry 28.) -/
def Obligations.EncryptBuffer : Prop :=
  ∀ s : State, s.busy = false →
    (s.dataIn.length = s.arg1.toNat → ∃ out : List Byte, out.length = s.arg1.toNat ∧
      (∀ k (h : k < s.dataIn.length), out[k]? = some (encryptByte s.dataIn[k])) ∧
      exec .encryptBuffer s = .next
        ({ s.afterAcceptance 0x00000005 with out := out, dataOut := out }.afterSuccess s.arg1 0)) ∧
    (s.dataIn.length ≠ s.arg1.toNat →
      exec .encryptBuffer s = .next ((s.afterAcceptance 0x00000005).afterAbort .invalidArgument s.arg1))

/-- 42_identification.md R131: SHUTDOWN discards the dialect and sends nothing. (Latching: log entry 28.) -/
def Obligations.Shutdown : Prop :=
  ∀ s : State, s.busy = false →
    exec .shutdown s = .next ({ s.afterAcceptance 0x0000000C with dialect := .none, chipId := 0 }.afterSuccess 0 0)

/-! ## Acceptance of the sequencer operations

The model's own throughout: `todo` and the locals (log entries 7, 8, 27), the held word (log entries 5, 6), and that the
acceptance keeps `CHIPID` (log entry 29). -/

/-- R130's opening and R135: IDENTIFY is accepted in every dialect state and discards the old identity first. (`todo`
and the locals are the model's: log entries 7, 8.) -/
def Obligations.IdentifyDiscardsAndBegins : Prop :=
  ∀ s : State, s.busy = false →
    exec .identify s = .next { s.afterAcceptance 0x00000006 with
      busy := true, dialect := .none, chipId := 0, fsm := .ident, seqIdx := 0, todo := .cycle .ident }

/-- 43 R150, R151, R146, R152: ERASE_BLOCK, ERASE_CHIP (with the plan's first block at the start offset) and
PROGRAM_BYTE begin their sequence when every acceptance check passes. (`todo` and the locals are the model's: log
entries 7, 8.) -/
def Obligations.EraseAndProgramBegin : Prop :=
  ∀ s : State, s.busy = false → s.dialect = .typeA → s.arg2 ≠ 0 → s.arg0.toNat < s.cfg.capacity →
    (s.arg0.toNat + s.arg1.toNat ≤ s.cfg.capacity →
      exec .eraseBlock s = .next { s.afterAcceptance 0x00000007 with
        busy := true, fsm := .erasing, seqIdx := 0, locAddr := s.arg0, locLen := s.arg1, todo := .cycle .erase }) ∧
    (∀ (n : Nat) (rest : List Nat), s.cfg.eraseChipPlan = n :: rest →
      s.arg0.toNat + s.cfg.eraseChipPlan.sum ≤ s.cfg.capacity →
      exec .eraseChip s = .next { s.afterAcceptance 0x00000008 with
        busy := true, outer := .eraseChip, doneBytes := 0, blkIdx := 0
        fsm := .erasing, seqIdx := 0, locAddr := s.arg0, locLen := BitVec.ofNat 32 n, todo := .cycle .erase }) ∧
    exec .programByte s = .next { s.afterAcceptance 0x00000009 with
      busy := true, fsm := .programming, seqIdx := 0, locAddr := s.arg0, locVal := s.arg1.extractLsb' 0 8
      todo := .cycle .program }

/-- R153: READ_FLASH begins reading at its address, or with `L = 0` ends at once with nothing sent. (That `L = 0` ends
in the acceptance step, and `todo`, are the model's: log entries 7, 8.) -/
def Obligations.ReadFlashBegins : Prop :=
  ∀ s : State, s.busy = false → s.dialect = .typeA → s.arg0.toNat + s.arg1.toNat ≤ s.cfg.capacity →
    (s.arg1 ≠ 0 → exec .readFlash s = .next { s.afterAcceptance 0x0000000A with
      busy := true, fsm := .reading, out := [], byteIdx := 0, cur := s.arg0, todo := .read }) ∧
    (s.arg1 = 0 → exec .readFlash s =
      .next ({ s.afterAcceptance 0x0000000A with out := [], byteIdx := 0 }.afterOperation 0 0))

/-- R154: WRITE_FLASH erases the aligned block that covers its first byte, WRITE_FLASH.WHOLE the plan's first block at
offset 0; with `L = 0` both end at once. (`todo` and the locals are the model's: log entries 7, 8.) -/
def Obligations.WriteFlashBegins : Prop :=
  ∀ (s : State) (n : Nat) (rest : List Nat), s.busy = false → s.dialect = .typeA → s.arg2 ≠ 0 →
    s.dataIn.length = s.arg1.toNat → s.arg0.toNat + s.arg1.toNat ≤ s.cfg.capacity → s.cfg.WF →
    s.cfg.eraseChipPlan = n :: rest →
    (s.arg1 ≠ 0 →
      exec .writeFlash s = .next { s.afterAcceptance 0x0000000B with
        busy := true, outer := .writeFlash, blkIdx := 0, fsm := .erasing, seqIdx := 0
        locAddr := BitVec.ofNat 32 (s.arg0.toNat / s.cfg.eraseBlockSize * s.cfg.eraseBlockSize)
        locLen := BitVec.ofNat 32 s.cfg.eraseBlockSize, todo := .cycle .erase } ∧
      exec .writeFlashWhole s = .next { s.afterAcceptance 0x0000001B with
        busy := true, outer := .writeFlash, doneBytes := 0, blkIdx := 0, fsm := .erasing, seqIdx := 0
        locAddr := 0, locLen := BitVec.ofNat 32 n, todo := .cycle .erase }) ∧
    (s.arg1 = 0 →
      exec .writeFlash s = .next ((s.afterAcceptance 0x0000000B).afterSuccess 0 0) ∧
      exec .writeFlashWhole s = .next ((s.afterAcceptance 0x0000001B).afterSuccess 0 0))

/-- 60_exceptions.md R181: the acceptance checks in their order. An illegal word ends in `IllegalOp`, a legal one in the
first failed check's error, and one that fails no check raises nothing. (The model's reading: the
CODEC's and XFORM's requests latch `OP` and `A_*` too and their abort clears `SEQ_IDX`, log entry 28; the acceptance keeps
`CHIPID`, log entry 29; the abort clears `todo`, log entry 27; and in the first clause the held word is accepted in a step
with an empty host queue, log entries 5, 6.) -/
def Obligations.AcceptanceChecksInOrder : Prop :=
  (∀ (s : State) (w : Word) (d : DecodeError), s.cfg.WF → s.host = [] → s.busy = false → s.held = some w →
    decodeRequest w = .error d → step s = .next ((s.afterAcceptance w).afterAbort .illegalOp w)) ∧
  (∀ (s : State) (i : Instr) (w : Word), s.busy = false → encode s.cfg i = .request w →
    (∀ e v, Rejects i s e v → exec i s = .next ((s.afterAcceptance w).afterAbort e v)) ∧
    ((∀ e v, ¬ Rejects i s e v) → ∃ t, exec i s = .next t ∧ t.err = .ok ∧ t.errInfo = 0))

/-- R174, R178: a flash operation without a TYPEA dialect raises `NotReady` or `Unimplemented`, with `ERRINFO = 0` and no
frame. (The model's: the abort's `todo`, log entry 27; the acceptance keeps `CHIPID`, log entry 29.) -/
def Obligations.FlashOperationsNeedADialect : Prop :=
  ∀ (s : State) (i : Instr) (w : Word), i ∈ flashOperations → encode s.cfg i = .request w → s.busy = false →
    (s.dialect = .none → exec i s = .next ((s.afterAcceptance w).afterAbort .notReady 0)) ∧
    (s.dialect = .typeB → exec i s = .next ((s.afterAcceptance w).afterAbort .unimplemented 0))

/-- 10_state.md R33: while `BUSY = 1` a request is held; no step of any agent takes it from the host before the operation
ends. (The model's own: that executing a request row while busy is the host's write, also over a word held before, is log
entry 16's reading; that the reset input keeps a held write is log entry 6's choice.) -/
def Obligations.RequestIsHeldWhileBusy : Prop :=
  (∀ (s : State) (i : Instr) (w : Word), encode s.cfg i = .request w → s.busy = true →
    exec i s = .next { s with held := some w }) ∧
  (∀ (s t : State) (w : Word), s.busy = true → s.held = some w → step s = .next t → t.held = some w)

/-! ## The steps of the sequencer

The model's own throughout: the answers and their counter (log entry 4), `todo` and the locals (7, 8, 27), a row executed
where the sequencer stands elsewhere (10), a frame row as one `Send` (9), `FSM` and the loop registers at the end of a loop
(13, 14). -/

/-- 42 R130, 43 R144, R145: a cycle of a fixed sequence that is not its last sends its frame and moves `SEQ_IDX` past
it, and changes nothing else. (Log entries 4, 10.) -/
def Obligations.CycleRowsAdvance : Prop :=
  ∀ (s : State) (r : Reply), s.nextAnswer = .ok r →
    let after := fun (k : CycleKind) (c : Cycle) (n : BitVec 3) =>
      { s.afterSend (cycleFrame s.cfg k c) 0 s.cfg.tCycle with seqIdx := n }
    exec .identUnlock1 s = .next (after .ident ⟨0x5555, 0xAA⟩ 1) ∧
    exec .identUnlock2 s = .next (after .ident ⟨0x2AAA, 0x55⟩ 2) ∧
    exec .programUnlock1 s = .next (after .program ⟨0x5555, 0xAA⟩ 1) ∧
    exec .programUnlock2 s = .next (after .program ⟨0x2AAA, 0x55⟩ 2) ∧
    exec .programProgSetup s = .next (after .program ⟨0x5555, 0xA0⟩ 3) ∧
    exec .eraseErasePre0 s = .next (after .erase s.cfg.erasePreamble.c0 1) ∧
    exec .eraseErasePre1 s = .next (after .erase s.cfg.erasePreamble.c1 2) ∧
    exec .eraseErasePre2 s = .next (after .erase s.cfg.erasePreamble.c2 3) ∧
    exec .eraseErasePre3 s = .next (after .erase s.cfg.erasePreamble.c3 4) ∧
    exec .eraseErasePre4 s = .next (after .erase s.cfg.erasePreamble.c4 5)

/-- R130, R145: the last identification cycle leads to the read of `ID_READ_ADDR`, the last program cycle to the poll
of its address for its wire value (R143). (`todo` and the locals are the model's: log entries 7, 8.) -/
def Obligations.LastCyclesLeadToTheirRead : Prop :=
  ∀ (s : State) (r : Reply), s.nextAnswer = .ok r →
    exec .identIdEntry s = .next { s.afterSend (cycleFrame s.cfg .ident ⟨0x5555, 0x90⟩) 0 s.cfg.tCycle with
      seqIdx := 3, cur := s.cfg.idReadAddr, todo := .read } ∧
    ∀ (pa : Addr24) (pd : Byte),
      exec (.programProgData pa pd) s = .next { s.afterSend (cycleFrame s.cfg .program ⟨pa, pd⟩) 0 s.cfg.tCycle with
        seqIdx := 4, locAddr := pa.setWidth 32, locVal := pd, fsm := .programPoll, att := 0
        cur := pa.setWidth 32, todo := .read }

/-- R144: the sector erase cycle leads to the first aligned word of the block. When there is none, `EraseBodyEnds`
says what follows. (`todo` and the locals are the model's: log entries 7, 8.) -/
def Obligations.SectorEraseLeadsToItsPoll : Prop :=
  ∀ (s : State) (r : Reply) (sa : Addr24) (w : Nat) (ws : List Nat), s.nextAnswer = .ok r →
    alignedWords sa.toNat s.locLen.toNat = w :: ws →
    exec (.eraseSectorErase sa) s = .next { s.afterSend (cycleFrame s.cfg .erase ⟨sa, 0x30⟩) 0 s.cfg.tCycle with
      seqIdx := 6, locAddr := sa.setWidth 32, fsm := .erasePoll, att := 0, cur := BitVec.ofNat 32 w, todo := .read }

/-- R130, R132, R171: a reset cycle moves `SEQ_IDX`; the last one leads to the end, or to `UnsupportedChip(id)` when
the low 16 bits of the identity are not in the allow-list. (`todo` and the locals are the model's: log entries 7, 8.)
-/
def Obligations.ResetCyclesThenSupportCheck : Prop :=
  ∀ (s : State) (r : Reply) (j : BitVec 3) (c : Cycle), s.nextAnswer = .ok r →
    s.cfg.resetSeq[j.toNat]? = some c → s.cfg.resetSeq.length ≤ 6 →
    let u : State := { s.afterSend (cycleFrame s.cfg .reset c) 0 s.cfg.tCycle with seqIdx := j + 1 }
    (j.toNat + 1 < s.cfg.resetSeq.length → exec (.resetReset j) s = .next u) ∧
    (j.toNat + 1 = s.cfg.resetSeq.length → s.locId.extractLsb' 0 16 ∈ s.cfg.supportedIds →
      exec (.resetReset j) s = .next { u with todo := .complete }) ∧
    (j.toNat + 1 = s.cfg.resetSeq.length → s.locId.extractLsb' 0 16 ∉ s.cfg.supportedIds →
      exec (.resetReset j) s = .next (u.afterAbort .unsupportedChip s.locId))

/-- R86, R87, R82: a cycle frame row sends its own bytes, and what follows is what follows the cycle at `SEQ_IDX` of
the sequence in progress; here in the middle of a sequence, where only `SEQ_IDX` moves. (That a frame row is one
`Send` at the sequencer's place is the model's reading: log entry 9.) -/
def Obligations.CycleFrameRowsAdvance : Prop :=
  ∀ (s : State) (r : Reply) (k : CycleKind) (n : Nat), s.nextAnswer = .ok r → s.todo = .cycle k →
    s.seqIdx.toNat = n →
    (match k with
      | .ident => n + 1 < 3 | .erase => n + 1 < 6 | .program => n + 1 < 4 | .reset => n + 1 < s.cfg.resetSeq.length) →
    ∀ (o : Byte) (a : Addr24) (d : Byte) (sub : Half),
      exec (.encCycleSub01 a d) s = .next { s.afterSend ⟨0xD4, a.extractLsb' 16 8, a.extractLsb' 8 8, a.extractLsb' 0 8,
        d, 0x01, 0x00, 0x00⟩ 0 s.cfg.tCycle with seqIdx := s.seqIdx + 1 } ∧
      exec (.encCycleProgram a d) s = .next { s.afterSend ⟨0xD4, a.extractLsb' 16 8, a.extractLsb' 8 8,
        a.extractLsb' 0 8, d, 0x03, 0x00, 0x00⟩ 0 s.cfg.tCycle with seqIdx := s.seqIdx + 1 } ∧
      exec (.plainCycle o a d sub) s = .next { s.afterSend ⟨o, a.extractLsb' 16 8, a.extractLsb' 8 8, a.extractLsb' 0 8,
        d, sub.extractLsb' 8 8, sub.extractLsb' 0 8, 0x00⟩ 0 s.cfg.tCycle with seqIdx := s.seqIdx + 1 }

/-- R82, R84: the frame row of the instance's profile that a sequencer cycle is sent as does what the cycle does. (Log
entries 9, 10.) -/
def Obligations.CycleAndItsFrameAgree : Prop :=
  ∀ (s : State) (i row : Instr) (k : CycleKind) (pos : Nat) (cw : Word), s.Inv → s.nextInstr = some i →
    encode s.cfg i = .cycle k pos cw →
    decode s.cfg (.sent .cycle (cycleFrame s.cfg k (Cycle.ofWord cw))) = .ok row → exec row s = exec i s

/-- 42 R130, 20_memory.md R53: IDENTIFY's read keeps the identity, little-endian and untransformed, and the reset
cycles begin. (`todo` and the locals are the model's: log entries 7, 8.) -/
def Obligations.IdentificationReadKeepsTheIdentity : Prop :=
  ∀ (s : State) (r : Reply) (i : Instr) (a : Word) (f : Frame), s.nextAnswer = .ok r → IsRead i a f →
    s.fsm = .ident →
    exec i s = .next { s.afterSend f 4 s.cfg.tRead with
      locId := r.r3 ++ r.r2 ++ r.r1 ++ r.r0, seqIdx := 0, todo := .cycle .reset }

/-- 43 R141: one read of an erase poll. A word that reads erased, all of its bytes 0xFF after `RX`, leads to the next
aligned word of the block, or to the block's end (`EraseBodyEnds`); another is read again until `A_BUDGET` reads, then
`Timeout(CUR)`. (`todo` and the locals are the model's: log entries 7, 8.) -/
def Obligations.ErasePollStep : Prop :=
  ∀ (s : State) (r : Reply) (i : Instr) (a : Word) (f : Frame), s.nextAnswer = .ok r → IsRead i a f →
    s.fsm = .erasePoll →
    let u : State := s.afterSend f 4 s.cfg.tRead
    (¬ ReadsErased s.cfg r → s.att + 1 ≠ s.aBudget → exec i s = .next { u with att := s.att + 1 }) ∧
    (¬ ReadsErased s.cfg r → s.att + 1 = s.aBudget →
      exec i s = .next ({ u with att := s.att + 1 }.afterAbort .timeout s.cur)) ∧
    (∀ w ws, ReadsErased s.cfg r → s.wordsLeft = w :: ws →
      exec i s = .next { u with att := 0, cur := BitVec.ofNat 32 w, todo := .read })

/-- R143: one read of a program poll. The low byte decides, on wire bytes; a match leads PROGRAM_BYTE to its end, a
miss is read again until `A_BUDGET` reads, then `Timeout(CUR)`. (`todo` and the locals are the model's: log entries 7,
8.) -/
def Obligations.ProgramPollStep : Prop :=
  ∀ (s : State) (r : Reply) (i : Instr) (a : Word) (f : Frame), s.nextAnswer = .ok r → IsRead i a f →
    s.fsm = .programPoll →
    let u : State := s.afterSend f 4 s.cfg.tRead
    (r.r0 = s.locVal → s.outer = .none → exec i s = .next { u with todo := .complete }) ∧
    (r.r0 ≠ s.locVal → s.att + 1 ≠ s.aBudget → exec i s = .next { u with att := s.att + 1 }) ∧
    (r.r0 ≠ s.locVal → s.att + 1 = s.aBudget →
      exec i s = .next ({ u with att := s.att + 1 }.afterAbort .timeout s.cur))

/-- R153: one read of READ_FLASH: up to four raw bytes, the progress event, and the next word or the end. (`todo` and
the locals are the model's: log entries 7, 8.) -/
def Obligations.ReadFlashWordStep : Prop :=
  ∀ (s : State) (r : Reply) (i : Instr) (a : Word) (f : Frame), s.nextAnswer = .ok r → IsRead i a f →
    s.fsm = .reading →
    let u : State := { s.afterSend f 4 s.cfg.tRead with
      out := s.out ++ [s.cfg.rx r.r0, s.cfg.rx r.r1, s.cfg.rx r.r2, s.cfg.rx r.r3].take (s.aLen.toNat - s.byteIdx.toNat)
      byteIdx := s.byteIdx + 4
      progress := s.progress ++ [⟨BitVec.ofNat 32 (min (s.byteIdx.toNat + 4) s.aLen.toNat), s.aLen, .read⟩] }
    (s.byteIdx.toNat + 4 < s.aLen.toNat →
      exec i s = .next { u with cur := s.aAddr + (s.byteIdx + 4), todo := .read }) ∧
    (s.aLen.toNat ≤ s.byteIdx.toNat + 4 → exec i s = .next { u with todo := .complete })

/-- R144, R146, R150, R151, R154: what follows a block, after its last poll read or, when it holds no aligned word,
after its sector erase cycle: the end of ERASE_BLOCK; the block's progress event and the next block of the plan, and
after the last the end of ERASE_CHIP or the first byte of WRITE_FLASH.WHOLE; the next block of WRITE_FLASH's minimal
erase while it begins before the window's end, then the first byte. (`todo` and the locals are the model's: log
entries 7, 8.) -/
def Obligations.EraseBodyEnds : Prop :=
  ∀ (s : State) (i : Instr) (u : State), BlockEnding s i u →
    let v : State := { u with
      doneBytes := s.doneBytes + s.locLen
      progress := s.progress ++ [⟨s.doneBytes + s.locLen, BitVec.ofNat 32 s.cfg.eraseChipPlan.sum, .erase⟩] }
    let b := s.aAddr.toNat / s.cfg.eraseBlockSize * s.cfg.eraseBlockSize + (s.blkIdx.toNat + 1) * s.cfg.eraseBlockSize
    (s.outer = .none → exec i s = .next { u with todo := .complete }) ∧
    (∀ n, s.outer = .eraseChip ∨ s.outer = .writeFlash ∧ s.aWhole = true →
      s.cfg.eraseChipPlan[s.blkIdx.toNat + 1]? = some n →
      exec i s = .next { v with
        blkIdx := s.blkIdx + 1, fsm := .erasing, seqIdx := 0
        locAddr := (if s.outer = Outer.eraseChip then s.aAddr else 0) + (s.doneBytes + s.locLen)
        locLen := BitVec.ofNat 32 n, todo := .cycle .erase }) ∧
    (s.outer = .eraseChip → s.cfg.eraseChipPlan[s.blkIdx.toNat + 1]? = none →
      exec i s = .next { v with todo := .complete }) ∧
    (∀ d ds, s.outer = .writeFlash → s.aWhole = true → s.cfg.eraseChipPlan[s.blkIdx.toNat + 1]? = none →
      s.aData = d :: ds → exec i s = .next (v.atFirstByte d)) ∧
    (s.outer = .writeFlash → s.aWhole = false → b < s.aAddr.toNat + s.aLen.toNat →
      exec i s = .next { u with
        blkIdx := s.blkIdx + 1, fsm := .erasing, seqIdx := 0, locAddr := BitVec.ofNat 32 b
        locLen := BitVec.ofNat 32 s.cfg.eraseBlockSize, todo := .cycle .erase }) ∧
    (∀ d ds, s.outer = .writeFlash → s.aWhole = false → ¬ b < s.aAddr.toNat + s.aLen.toNat → s.aData = d :: ds →
      exec i s = .next ({ u with blkIdx := s.blkIdx + 1 }.atFirstByte d))

/-- R154: a programmed byte of WRITE_FLASH leads to the next byte, `TX` applied, or after the last to the end. (`todo`
and the locals are the model's: log entries 7, 8.) -/
def Obligations.WriteFlashByteEnds : Prop :=
  ∀ (s : State) (r : Reply) (i : Instr) (a : Word) (f : Frame), s.nextAnswer = .ok r → IsRead i a f →
    s.fsm = .programPoll → r.r0 = s.locVal → s.outer = .writeFlash →
    let u : State := s.afterSend f 4 s.cfg.tRead
    (∀ d, s.aData[s.byteIdx.toNat + 1]? = some d →
      exec i s = .next { u with
        byteIdx := s.byteIdx + 1, cur := s.aAddr + (s.byteIdx + 1), fsm := .programming, seqIdx := 0
        locAddr := s.aAddr + (s.byteIdx + 1), locVal := s.cfg.tx d, todo := .cycle .program }) ∧
    (s.aData[s.byteIdx.toNat + 1]? = none → exec i s = .next { u with todo := .complete })

/-- R142: `AlignedWords` is exactly the multiples of 4 in the window, ascending, and `nextAligned`, by which the sequencer
walks them, takes them one after another. R154: the number of blocks of WRITE_FLASH's minimal erase is
`floor((address + L - 1) / B) - floor(address / B) + 1`. -/
def Obligations.WordsAndBlocksOfAWindow : Prop :=
  (∀ o l : Nat,
    (∀ w, w ∈ alignedWords o l ↔ o ≤ w ∧ w < o + l ∧ w % 4 = 0) ∧ (alignedWords o l).Pairwise (· < ·) ∧
    alignedWords o l =
      match nextAligned o (o + l) with
      | some w => w :: alignedWords (w + 1) (o + l - (w + 1))
      | none => []) ∧
  (∀ (s : State) (i : Nat), 0 < s.cfg.eraseBlockSize → 0 < s.aLen.toNat →
    (s.minimalBlock i < s.windowEnd ↔
      i < (s.aAddr.toNat + s.aLen.toNat - 1) / s.cfg.eraseBlockSize - s.aAddr.toNat / s.cfg.eraseBlockSize + 1))

/-- 00_scope.md R7, R9: the frame of every row that makes a `Send`, whatever the answer and wherever the sequencer stands:
one frame leaves and one answer is used up, and nothing the host wrote or supplied, no latched operand and no identity
changes. Either no error is raised, and the status, error and result registers stay as well; or the step ends in the abort
of one of the three errors of 60_exceptions.md R183. (The model's own: the answers and their counter are log entry 4's, a
frame row as one `Send` log entry 9's, a row outside its place log entry 10's.) -/
def Obligations.SendRowsAbortOrChangeTheSequencerOnly : Prop :=
  ∀ (s : State) (i : Instr), (failureAddress s.cfg i).isSome = true →
    ∃ (t : State) (x : Exchange), exec i s = .next t ∧ exchangeOf s.cfg i = some x ∧ t.sent = s.sent ++ [x] ∧
      t.sends = s.sends + 1 ∧ t.answers = s.answers.tail ∧ t.cfg = s.cfg ∧ t.reqLatch = s.reqLatch ∧
      t.arg0 = s.arg0 ∧ t.arg1 = s.arg1 ∧ t.arg2 = s.arg2 ∧ t.arg3 = s.arg3 ∧ t.dataIn = s.dataIn ∧
      t.held = s.held ∧ t.host = s.host ∧ t.readData = s.readData ∧ t.dialect = s.dialect ∧ t.chipId = s.chipId ∧
      t.op = s.op ∧ t.aAddr = s.aAddr ∧ t.aLen = s.aLen ∧ t.aBudget = s.aBudget ∧ t.aWhole = s.aWhole ∧
      t.aData = s.aData ∧
      ((t.busy = s.busy ∧ t.done = s.done ∧ t.err = s.err ∧ t.errInfo = s.errInfo ∧ t.outer = s.outer ∧
          t.res0 = s.res0 ∧ t.res1 = s.res1 ∧ t.dataOut = s.dataOut) ∨
       (∃ e v, e ∈ [ErrCode.unsupportedChip, .timeout, .transportError] ∧ t = t.afterAbort e v))

/-- 60_exceptions.md R173: a `Send` that returns `Fail` aborts at once with `TransportError` and the failed frame's
address, whatever row made it, with the effect of the abort (R180); nothing is retried. (The model's own: the answers and
their counter are log entry 4's, a frame row as one `Send` log entry 9's, a row outside its place log entry 10's.) -/
def Obligations.FailedSendAborts : Prop :=
  ∀ (s : State) (i : Instr) (a : Word), failureAddress s.cfg i = some a → s.nextAnswer = .fail →
    ∃ (t : State) (x : Exchange), exec i s = .next t ∧ exchangeOf s.cfg i = some x ∧ t.sent = s.sent ++ [x] ∧
      t.sends = s.sends + 1 ∧ t.err = .transportError ∧ t.errInfo = a ∧ t.busy = false ∧ t.done = true ∧ t.fsm = .idle ∧ t.outer = .none ∧
      t.seqIdx = 0 ∧ t.res0 = 0 ∧ t.res1 = 0 ∧ t.dataOut = [] ∧ t.dialect = s.dialect ∧ t.chipId = s.chipId ∧
      t.progress = s.progress

/-- 00_scope.md R7: the completion step of each sequencer operation and what it returns (42 R130, 43 R150 to R154; that it
is a step of its own is log entry 7). -/
def Obligations.CompletionStep : Prop :=
  ∀ s : State, s.cfg.WF → s.host = [] → s.busy = true → s.todo = .complete →
    (s.op = 0x6 → step s = .next ({ s with
      chipId := s.locId
      dialect := if s.locId.extractLsb' 0 16 ∈ s.cfg.typeBIds then .typeB else .typeA }.afterOperation s.locId 0)) ∧
    (s.op = 0x7 ∨ s.op = 0x9 → step s = .next (s.afterOperation 0 0)) ∧
    (s.op = 0x8 → step s = .next (s.afterOperation (BitVec.ofNat 32 s.cfg.eraseChipPlan.sum) 0)) ∧
    (s.op = 0xA → step s = .next ({ s with dataOut := s.out }.afterOperation s.aLen 0)) ∧
    (s.op = 0xB → step s = .next (s.afterOperation s.aLen 0))

/-! ## The step -/

/-- The FCB runs the instruction its request register or its sequencer selects (10_state.md R27, R33), whether the host
has nothing to do or lets it run; a held legal request selects the instruction its word decodes to; an idle FCB without a
request "holds all its state, and sends nothing" (60_exceptions.md R195). (The model's own: the host's queue and its
action `run` are log entry 5's choice, and what selects the next instruction of a machine that fetches none is log entry
12's.) -/
def Obligations.StepRunsTheNextInstruction : Prop :=
  (∀ (s : State) (i : Instr) (w : Word), s.busy = false → s.held = some w → decode s.cfg (.request w) = .ok i →
    s.nextInstr = some i) ∧
  (∀ (s : State) (i : Instr), s.cfg.WF → s.nextInstr = some i →
    (s.host = [] → step s = exec i s) ∧
    (∀ rest, s.host = .run :: rest → step s = exec i { s with host := rest })) ∧
  (∀ s : State, s.cfg.WF → s.host = [] → s.busy = false → s.held = none → step s = .next s)

/-- Placing any well-formed instruction makes the very next step run it (log entry 12). -/
def Obligations.PlacedInstructionRunsNext : Prop :=
  ∀ (s : State) (i : Instr), (s.place i).cfg.WF → i.wf (s.place i).cfg = true →
    step (s.place i) = exec i (s.place i)

/-- 10_state.md R26: `STATUS` field by field, the reserved bits 0, with the code values of R29 (`DIALECT`),
60_exceptions.md R170 (`ERR`), R34 (`FSM`) and R26 (`OUTER`). -/
def Obligations.StatusFields : Prop :=
  ∀ s : State,
    let w := s.readReg .status
    w.getLsbD 0 = s.busy ∧ w.getLsbD 1 = s.done ∧
    w.extractLsb' 2 2 = (match s.dialect with | .none => 0 | .typeA => 1 | .typeB => 2) ∧
    w.extractLsb' 4 4 = (match s.err with
      | .ok => 0 | .unsupportedChip => 1 | .unsupportedRevision => 2 | .secureInitFailed => 3 | .timeout => 4
      | .transportError => 5 | .payloadTooLarge => 6 | .unimplemented => 7 | .outOfRange => 8 | .invalidArgument => 9
      | .notReady => 10 | .illegalOp => 11) ∧
    w.extractLsb' 8 3 = (match s.fsm with
      | .idle => 0 | .ident => 1 | .erasing => 2 | .erasePoll => 3 | .programming => 4 | .programPoll => 5
      | .reading => 6) ∧
    w.extractLsb' 11 2 = (match s.outer with | .none => 0 | .eraseChip => 1 | .writeFlash => 2) ∧
    w.getLsbD 13 = s.cfg.encrypting ∧ w.extractLsb' 14 18 = 0

/-- R23 to R25, R30 to R32, R39: which register each number names and which value a read of each returns (`STATUS`:
`StatusFields`). When no `REQ` write is held, whether the FCB is busy or not, a host write of `ARG0..3` is taken and read
back, a write of a read-only register is ignored, a write of `REQ` is held with its payload, and a read changes nothing of
the FCB. While a `REQ` write is held the host has no step (R33, 93 I9): whatever access comes next, the FCB steps and the
access stays with the host, so that it comes after the acceptance (R212). (The model's own: the host's actions are the
state's queue, log entry 5; a `REQ` write waits in `held`, and every access after it waits for its acceptance, log entry 6;
without a payload its `DATA_IN` is empty, log entry 26.) -/
def Obligations.HostAccesses : Prop :=
  ([HostReg.req, .arg0, .arg1, .arg2, .arg3, .status, .errInfo, .chipId, .res0, .res1].map HostReg.number =
    [0x00, 0x04, 0x08, 0x0C, 0x10, 0x14, 0x18, 0x1C, 0x20, 0x24]) ∧
  (∀ s : State,
    s.readReg .req = s.reqLatch ∧ s.readReg .arg0 = s.arg0 ∧ s.readReg .arg1 = s.arg1 ∧ s.readReg .arg2 = s.arg2 ∧
    s.readReg .arg3 = s.arg3 ∧ s.readReg .errInfo = s.errInfo ∧ s.readReg .chipId = s.chipId ∧
    s.readReg .res0 = s.res0 ∧ s.readReg .res1 = s.res1) ∧
  ∀ (s : State) (r : HostReg) (v : Word) (rest : List HostAction), s.cfg.WF →
    (s.host = .write r v :: rest → r ∈ [HostReg.arg0, .arg1, .arg2, .arg3] → s.held = none →
      ∃ t, step s = .next t ∧ t.readReg r = v ∧ (∀ r', r' ≠ r → t.readReg r' = s.readReg r') ∧
        t = { s with host := rest, arg0 := t.arg0, arg1 := t.arg1, arg2 := t.arg2, arg3 := t.arg3 }) ∧
    (s.host = .write r v :: rest → r ∈ [HostReg.status, .errInfo, .chipId, .res0, .res1] → s.held = none →
      step s = .next { s with host := rest }) ∧
    (∀ data, s.host = .request v data :: rest → s.held = none →
      step s = .next { s with host := rest, held := some v, dataIn := data }) ∧
    (s.host = .write .req v :: rest → s.held = none →
      step s = .next { s with host := rest, held := some v, dataIn := [] }) ∧
    (s.host = .write r v :: rest ∨ (∃ data, s.host = .request v data :: rest) ∨ s.host = .read r :: rest → s.held ≠ none →
      step s = fcbStep s ∧ ∀ t, step s = .next t → t.host = s.host) ∧
    (s.host = .read r :: rest → s.held = none → step s = .next { s with host := rest, readData := s.readReg r })

/-- 70_reset_and_hazards.md R200, R201, 10_state.md R38: the reset input at any moment, also in the middle of an
operation. What the other agents hold stays (log entries 6, 19). -/
def Obligations.ResetInput : Prop :=
  ∀ (s : State) (rest : List HostAction), s.cfg.WF → s.host = .reset :: rest →
    ∃ t, step s = .next t ∧ t.cfg = s.cfg ∧ t.reqLatch = 0 ∧ t.arg0 = 0 ∧ t.arg1 = 0 ∧ t.arg2 = 0 ∧ t.arg3 = 0 ∧
      t.busy = false ∧ t.done = false ∧ t.dialect = .none ∧ t.err = .ok ∧ t.fsm = .idle ∧ t.outer = .none ∧
      t.errInfo = 0 ∧ t.chipId = 0 ∧ t.res0 = 0 ∧ t.res1 = 0 ∧ t.dataOut = [] ∧ t.seqIdx = 0 ∧ t.op = 0 ∧
      t.aAddr = 0 ∧ t.aLen = 0 ∧ t.aBudget = 0 ∧ t.aWhole = false ∧ t.aData = [] ∧ t.cur = 0 ∧ t.att = 0 ∧
      t.blkIdx = 0 ∧ t.byteIdx = 0 ∧ t.doneBytes = 0 ∧ t.out = [] ∧ t.todo = .idle ∧
      t.sent = s.sent ∧ t.progress = s.progress ∧ t.host = rest

/-- R202, R205: after reset every flash operation raises `NotReady`, and the pure operations, IDENTIFY and SHUTDOWN do
not. (The request is held: log entry 5.) -/
def Obligations.WhatResetAdmits : Prop :=
  ∀ (cfg : Config) (w : Word) (i : Instr) (data : List Byte), cfg.WF → decodeRequest w = .ok i →
    ∃ t, step { State.resetWith cfg with held := some w, dataIn := data } = .next t ∧
      (i ∈ flashOperations → t.err = .notReady ∧ t.busy = false) ∧
      (i ∈ [Instr.buildFrameG, .buildFrameA3, .encryptByte, .decryptByte, .shutdown] →
        t.err = .ok ∧ t.done = true ∧ t.busy = false ∧ t.sent = []) ∧
      (i = .encryptBuffer → data = [] → t.err = .ok ∧ t.done = true ∧ t.busy = false ∧ t.sent = []) ∧
      (i = .identify → t.err = .ok ∧ t.busy = true)

/-! ## Whole-machine rules

The model's own throughout: the answers and the record of what was sent (log entries 4, 19), the host's queue and the held
word (5, 6), the completion as a step of its own (7). -/

/-- R204: "`CFG` is set when the instance is built and is read-only afterwards". -/
def Obligations.ConfigurationIsFixed : Prop :=
  ∀ s t : State, step s = .next t → t.cfg = s.cfg

/-- 20_memory.md R57, R60, 00_scope.md R7, 30_encoding.md R84, R85: a step makes at most one `Send`; it is the sequencer's
next frame with its response length and timing parameter, appended to the stream, and it uses up one answer. -/
def Obligations.EveryStepSendsAtMostTheNextFrame : Prop :=
  ∀ s t : State, fcbStep s = .next t →
    t.sent = s.sent ++ s.nextExchange.toList ∧ t.sends = s.sends + s.nextExchange.toList.length ∧
    t.answers = s.answers.drop s.nextExchange.toList.length ∧
    ∀ x, s.nextExchange = some x →
      (∃ k c, x = ⟨cycleFrame s.cfg k c, 0, s.cfg.tCycle⟩) ∨ (∃ a, x = ⟨readFrame s.cfg a, 4, s.cfg.tRead⟩)

/-- 10_state.md R29: only IDENTIFY's acceptance and end, SHUTDOWN's acceptance and reset write `DIALECT`. Accepted is a
held request of an FCB that is not busy (R33). -/
def Obligations.OnlyIdentifyShutdownAndResetWriteTheDialect : Prop :=
  ∀ s t : State, step s = .next t → t.dialect ≠ s.dialect →
    (t.dialect = .none ∧ ((∃ rest, s.host = .reset :: rest) ∨
      (s.busy = false ∧ (s.held = some 0x00000006 ∨ s.held = some 0x0000000C)))) ∨
    (s.busy = true ∧ s.todo = .complete ∧ s.op = 0x6 ∧ t.dialect ≠ .none)

/-- 70 R212: `ARG0..3` and `DATA_IN` "are latched at acceptance": no step of an operation in progress reads them. -/
def Obligations.OperandRegistersAreNoHazard : Prop :=
  ∀ (s t : State) (a0 a1 a2 a3 : Word) (d : List Byte), s.busy = true → fcbStep s = .next t →
    fcbStep { s with arg0 := a0, arg1 := a1, arg2 := a2, arg3 := a3, dataIn := d } =
      .next { t with arg0 := a0, arg1 := a1, arg2 := a2, arg3 := a3, dataIn := d }

/-- 60_exceptions.md R180, R183: an error during execution is one of three, and its abort leaves the FCB idle with
results cleared, `DIALECT`, `CHIPID` and the latched operands kept, and no progress event of its own. -/
def Obligations.ErrorDuringExecutionAborts : Prop :=
  ∀ s t : State, s.HostInv → s.busy = true → fcbStep s = .next t → t.err ≠ .ok →
    t.err ∈ [ErrCode.unsupportedChip, .timeout, .transportError] ∧
    t = t.afterAbort t.err t.errInfo ∧ t.dialect = s.dialect ∧ t.chipId = s.chipId ∧ t.progress = s.progress ∧
    t.op = s.op ∧ t.aAddr = s.aAddr ∧ t.aLen = s.aLen ∧ t.aBudget = s.aBudget ∧ t.aWhole = s.aWhole ∧
    t.aData = s.aData ∧ t.cur = s.cur ∧ t.blkIdx = s.blkIdx ∧ t.byteIdx = s.byteIdx ∧ t.doneBytes = s.doneBytes ∧
    t.out = s.out ∧ t.reqLatch = s.reqLatch

/-! ## Invariants

The invariants speak of the model's own `todo` and locals too (log entries 7, 8), of loop registers where log entries 13 and
14 leave them, and let `CHIPID` stand while busy (log entry 29). -/

/-- The invariant holds after reset, for every configuration R21 admits and for the model's own reset state. -/
def Obligations.ResetSatisfiesTheInvariant : Prop :=
  (∀ cfg : Config, cfg.WF → (State.resetWith cfg).Inv) ∧ State.reset.Inv

/-- Every step, of the FCB or of the host, keeps what the host-visible registers promise (R26, R29 to R34, R212). -/
def Obligations.StepKeepsTheHostInvariant : Prop :=
  ∀ s t : State, s.HostInv → step s = .next t → t.HostInv

/-- Every step keeps the whole invariant: where in its operation the sequencer stands (R28, R34), windows inside the
flash (R65), polls inside their budget (R140). -/
def Obligations.StepKeepsTheInvariant : Prop :=
  ∀ s t : State, s.Inv → step s = .next t → t.Inv

/-- From every state of the invariant a step answers a next state: "Whether the FCB has a step never depends on an
answer's value" (R6), and no run reaches a fault or a refusal. -/
def Obligations.InvariantStatesStepSafely : Prop :=
  ∀ s : State, s.Inv → s.StepsSafely

/-- What the FCB runs is well formed: a block or byte address lies in the flash window, a frame row is of the instance's
profile, a reset cycle is one of `RESET_SEQ` (R65, R84). -/
def Obligations.NextInstructionIsWellFormed : Prop :=
  ∀ (s : State) (i : Instr), s.Inv → s.nextInstr = some i → i.wf s.cfg = true

/-- 43 R140, 10_state.md R33: every operation ends. Left alone by the host, a busy FCB comes to the end of its operation,
whatever the transport answers. -/
def Obligations.EveryOperationEnds : Prop :=
  ∀ s : State, s.Inv → s.host = [] → s.busy = true →
    ∃ (k : Nat) (t : State), core.run k s = .next t ∧ t.busy = false ∧ t.done = true

/-! ## Whole operations

The model's own throughout: the held request and the empty host queue (log entries 5, 6), the answers (4), and the number
of steps, in which the completion is a step of its own (7). -/

/-- 43 R153: READ_FLASH of `L` bytes, from its request to its end: the frames it sends, the raw bytes it returns, its
progress events, and what stays. (The number of steps counts the completion as a step of its own: log entry 7. The
answers are the state's script: log entry 4.) -/
def Obligations.ReadFlashReturnsTheWindow : Prop :=
  ∀ (s : State) (rs : List Reply) (rest : List Answer), s.cfg.WF → s.host = [] → s.busy = false →
    s.held = some 0x0000000A → s.dialect = .typeA → 0 < s.arg1.toNat →
    s.arg0.toNat + s.arg1.toNat ≤ s.cfg.capacity → rs.length = (s.arg1.toNat + 3) / 4 →
    s.answers = rs.map Answer.ok ++ rest →
    ∃ t : State, core.run (rs.length + 2) s = .next t ∧ t.busy = false ∧ t.done = true ∧ t.err = .ok ∧
      t.fsm = .idle ∧ t.res0 = s.arg1 ∧ t.res1 = 0 ∧
      t.dataOut = (rs.flatMap fun r => [s.cfg.rx r.r0, s.cfg.rx r.r1, s.cfg.rx r.r2, s.cfg.rx r.r3]).take s.arg1.toNat ∧
      t.sent = s.sent ++ (List.range rs.length).map (fun k =>
        ⟨readFrame s.cfg (s.arg0 + BitVec.ofNat 32 (4 * k)), 4, s.cfg.tRead⟩) ∧
      t.progress = s.progress ++ (List.range rs.length).map (fun k =>
        ⟨BitVec.ofNat 32 (min (4 * (k + 1)) s.arg1.toNat), s.arg1, .read⟩) ∧
      t.answers = rest ∧ t.dialect = .typeA ∧ t.chipId = s.chipId

/-- 43 R152, R143, R140: PROGRAM_BYTE from its request to its end. It ends with success at the first poll read whose
low byte is the value, if that comes within the budget, and with `Timeout(offset)` after exactly the budget of misses.
(The number of steps counts the completion as a step of its own: log entry 7. The answers are the state's script: log
entry 4.) -/
def Obligations.ProgramByteVerifiesByPolling : Prop :=
  ∀ (s : State) (c0 c1 c2 c3 : Reply) (misses : List Reply) (rest : List Answer), s.cfg.WF → s.host = [] →
    s.busy = false → s.outer = .none → s.held = some 0x00000009 → s.dialect = .typeA → s.arg2 ≠ 0 →
    s.arg0.toNat < s.cfg.capacity → (∀ m ∈ misses, m.r0 ≠ s.arg1.extractLsb' 0 8) →
    (∀ hit : Reply, hit.r0 = s.arg1.extractLsb' 0 8 → misses.length < s.arg2.toNat →
      s.answers = [.ok c0, .ok c1, .ok c2, .ok c3] ++ misses.map Answer.ok ++ .ok hit :: rest →
      ∃ t : State, core.run (misses.length + 7) s = .next t ∧ t.busy = false ∧ t.done = true ∧ t.err = .ok ∧
        t.res0 = 0 ∧ t.fsm = .idle ∧ t.answers = rest ∧ t.sends = s.sends + misses.length + 5) ∧
    (misses.length = s.arg2.toNat →
      s.answers = [.ok c0, .ok c1, .ok c2, .ok c3] ++ misses.map Answer.ok ++ rest →
      ∃ t : State, core.run (misses.length + 5) s = .next t ∧ t.busy = false ∧ t.done = true ∧ t.err = .timeout ∧
        t.errInfo = s.arg0 ∧ t.fsm = .idle ∧ t.answers = rest ∧ t.dialect = .typeA)

/-- 42 R130, R135: IDENTIFY from its request to its end: the identification cycles, the read, the reset cycles, and
then either the identity and its dialect or `UnsupportedChip(id)` with neither. (The number of steps counts the
completion as a step of its own: log entry 7. The answers are the state's script: log entry 4.) -/
def Obligations.IdentifySelectsTheDialectOrNothing : Prop :=
  ∀ (s : State) (c0 c1 c2 r : Reply) (resets : List Reply) (rest : List Answer), s.cfg.WF → s.host = [] →
    s.busy = false → s.held = some 0x00000006 → resets.length = s.cfg.resetSeq.length →
    s.answers = [.ok c0, .ok c1, .ok c2, .ok r] ++ resets.map Answer.ok ++ rest →
    let id := r.r3 ++ r.r2 ++ r.r1 ++ r.r0
    let frames := [(⟨cycleFrame s.cfg .ident ⟨0x5555, 0xAA⟩, 0, s.cfg.tCycle⟩ : Exchange),
      ⟨cycleFrame s.cfg .ident ⟨0x2AAA, 0x55⟩, 0, s.cfg.tCycle⟩, ⟨cycleFrame s.cfg .ident ⟨0x5555, 0x90⟩, 0, s.cfg.tCycle⟩,
      ⟨readFrame s.cfg s.cfg.idReadAddr, 4, s.cfg.tRead⟩] ++
      s.cfg.resetSeq.map fun c => ⟨cycleFrame s.cfg .reset c, 0, s.cfg.tCycle⟩
    (id.extractLsb' 0 16 ∈ s.cfg.supportedIds →
      ∃ t : State, core.run (resets.length + 6) s = .next t ∧ t.done = true ∧ t.busy = false ∧ t.err = .ok ∧
        t.chipId = id ∧ t.res0 = id ∧ t.res1 = 0 ∧ t.sent = s.sent ++ frames ∧
        t.dialect = (if id.extractLsb' 0 16 ∈ s.cfg.typeBIds then .typeB else .typeA)) ∧
    (id.extractLsb' 0 16 ∉ s.cfg.supportedIds →
      ∃ t : State, core.run (resets.length + 5) s = .next t ∧ t.done = true ∧ t.busy = false ∧
        t.err = .unsupportedChip ∧ t.errInfo = id ∧ t.chipId = 0 ∧ t.dialect = .none ∧ t.res0 = 0 ∧
        t.sent = s.sent ++ frames)

/-- 43 R156, 70 R216 on the spec's chip double (95 section 0; log entry 24): PROGRAM_BYTE of `TX(x)` on an erased byte
stores the raw byte `x`, and nothing else of the chip changes. (The number of steps counts the completion as a step of its
own: log entry 7.) -/
def Obligations.ProgrammedByteIsStoredRaw : Prop :=
  ∀ (b : Bench) (x : Byte), b.fcb.cfg.WF → b.fcb.host = [] → b.fcb.busy = false → b.fcb.outer = .none →
    b.fcb.held = some 0x00000009 → b.fcb.dialect = .typeA → b.fcb.arg2 ≠ 0 → b.fcb.arg0.toNat < b.fcb.cfg.capacity →
    b.fcb.arg1.extractLsb' 0 8 = b.fcb.cfg.tx x → b.chip.encrypting = b.fcb.cfg.encrypting →
    b.chip.mem.length = b.fcb.cfg.capacity → b.chip.mem[b.fcb.arg0.toNat]? = some 0xFF → b.chip.commands = [] →
    b.chip.idmode = false → b.chip.progarm = false → b.chip.erasearm = false →
    ∃ b' : Bench, b.run 7 = .next b' ∧ b'.fcb.err = .ok ∧ b'.fcb.done = true ∧ b'.fcb.busy = false ∧
      b'.chip = { b.chip with mem := b.chip.mem.set b.fcb.arg0.toNat x }
end

