-- ==== Sys2Proof/Laws/State.lean ====
section
/-! SUPPORT. One lemma per field per update: what each named update of Ops.lean and Bodies.lean leaves in each field. -/

namespace Sys2Proof.Machine

variable (s : State)

/-! ### raise -/

@[simp] theorem State.raise_cfg (e : ErrCode) (i : Word) : (s.raise e i).cfg = s.cfg := rfl
@[simp] theorem State.raise_reqLatch (e : ErrCode) (i : Word) : (s.raise e i).reqLatch = s.reqLatch := rfl
@[simp] theorem State.raise_arg0 (e : ErrCode) (i : Word) : (s.raise e i).arg0 = s.arg0 := rfl
@[simp] theorem State.raise_arg1 (e : ErrCode) (i : Word) : (s.raise e i).arg1 = s.arg1 := rfl
@[simp] theorem State.raise_arg2 (e : ErrCode) (i : Word) : (s.raise e i).arg2 = s.arg2 := rfl
@[simp] theorem State.raise_arg3 (e : ErrCode) (i : Word) : (s.raise e i).arg3 = s.arg3 := rfl
@[simp] theorem State.raise_busy (e : ErrCode) (i : Word) : (s.raise e i).busy = false := rfl
@[simp] theorem State.raise_done (e : ErrCode) (i : Word) : (s.raise e i).done = true := rfl
@[simp] theorem State.raise_dialect (e : ErrCode) (i : Word) : (s.raise e i).dialect = s.dialect := rfl
@[simp] theorem State.raise_err (e : ErrCode) (i : Word) : (s.raise e i).err = e := rfl
@[simp] theorem State.raise_fsm (e : ErrCode) (i : Word) : (s.raise e i).fsm = .idle := rfl
@[simp] theorem State.raise_outer (e : ErrCode) (i : Word) : (s.raise e i).outer = .none := rfl
@[simp] theorem State.raise_errInfo (e : ErrCode) (i : Word) : (s.raise e i).errInfo = i := rfl
@[simp] theorem State.raise_chipId (e : ErrCode) (i : Word) : (s.raise e i).chipId = s.chipId := rfl
@[simp] theorem State.raise_res0 (e : ErrCode) (i : Word) : (s.raise e i).res0 = 0 := rfl
@[simp] theorem State.raise_res1 (e : ErrCode) (i : Word) : (s.raise e i).res1 = 0 := rfl
@[simp] theorem State.raise_dataOut (e : ErrCode) (i : Word) : (s.raise e i).dataOut = [] := rfl
@[simp] theorem State.raise_seqIdx (e : ErrCode) (i : Word) : (s.raise e i).seqIdx = 0 := rfl
@[simp] theorem State.raise_op (e : ErrCode) (i : Word) : (s.raise e i).op = s.op := rfl
@[simp] theorem State.raise_aAddr (e : ErrCode) (i : Word) : (s.raise e i).aAddr = s.aAddr := rfl
@[simp] theorem State.raise_aLen (e : ErrCode) (i : Word) : (s.raise e i).aLen = s.aLen := rfl
@[simp] theorem State.raise_aBudget (e : ErrCode) (i : Word) : (s.raise e i).aBudget = s.aBudget := rfl
@[simp] theorem State.raise_aWhole (e : ErrCode) (i : Word) : (s.raise e i).aWhole = s.aWhole := rfl
@[simp] theorem State.raise_aData (e : ErrCode) (i : Word) : (s.raise e i).aData = s.aData := rfl
@[simp] theorem State.raise_cur (e : ErrCode) (i : Word) : (s.raise e i).cur = s.cur := rfl
@[simp] theorem State.raise_att (e : ErrCode) (i : Word) : (s.raise e i).att = s.att := rfl
@[simp] theorem State.raise_blkIdx (e : ErrCode) (i : Word) : (s.raise e i).blkIdx = s.blkIdx := rfl
@[simp] theorem State.raise_byteIdx (e : ErrCode) (i : Word) : (s.raise e i).byteIdx = s.byteIdx := rfl
@[simp] theorem State.raise_doneBytes (e : ErrCode) (i : Word) : (s.raise e i).doneBytes = s.doneBytes := rfl
@[simp] theorem State.raise_out (e : ErrCode) (i : Word) : (s.raise e i).out = s.out := rfl
@[simp] theorem State.raise_locAddr (e : ErrCode) (i : Word) : (s.raise e i).locAddr = s.locAddr := rfl
@[simp] theorem State.raise_locLen (e : ErrCode) (i : Word) : (s.raise e i).locLen = s.locLen := rfl
@[simp] theorem State.raise_locVal (e : ErrCode) (i : Word) : (s.raise e i).locVal = s.locVal := rfl
@[simp] theorem State.raise_locId (e : ErrCode) (i : Word) : (s.raise e i).locId = s.locId := rfl
@[simp] theorem State.raise_todo (e : ErrCode) (i : Word) : (s.raise e i).todo = .idle := rfl
@[simp] theorem State.raise_held (e : ErrCode) (i : Word) : (s.raise e i).held = s.held := rfl
@[simp] theorem State.raise_dataIn (e : ErrCode) (i : Word) : (s.raise e i).dataIn = s.dataIn := rfl
@[simp] theorem State.raise_host (e : ErrCode) (i : Word) : (s.raise e i).host = s.host := rfl
@[simp] theorem State.raise_readData (e : ErrCode) (i : Word) : (s.raise e i).readData = s.readData := rfl
@[simp] theorem State.raise_answers (e : ErrCode) (i : Word) : (s.raise e i).answers = s.answers := rfl
@[simp] theorem State.raise_sends (e : ErrCode) (i : Word) : (s.raise e i).sends = s.sends := rfl
@[simp] theorem State.raise_sent (e : ErrCode) (i : Word) : (s.raise e i).sent = s.sent := rfl
@[simp] theorem State.raise_progress (e : ErrCode) (i : Word) : (s.raise e i).progress = s.progress := rfl

/-! ### complete -/

@[simp] theorem State.complete_cfg (r0 r1 : Word) : (s.complete r0 r1).cfg = s.cfg := rfl
@[simp] theorem State.complete_reqLatch (r0 r1 : Word) : (s.complete r0 r1).reqLatch = s.reqLatch := rfl
@[simp] theorem State.complete_arg0 (r0 r1 : Word) : (s.complete r0 r1).arg0 = s.arg0 := rfl
@[simp] theorem State.complete_arg1 (r0 r1 : Word) : (s.complete r0 r1).arg1 = s.arg1 := rfl
@[simp] theorem State.complete_arg2 (r0 r1 : Word) : (s.complete r0 r1).arg2 = s.arg2 := rfl
@[simp] theorem State.complete_arg3 (r0 r1 : Word) : (s.complete r0 r1).arg3 = s.arg3 := rfl
@[simp] theorem State.complete_busy (r0 r1 : Word) : (s.complete r0 r1).busy = false := rfl
@[simp] theorem State.complete_done (r0 r1 : Word) : (s.complete r0 r1).done = true := rfl
@[simp] theorem State.complete_dialect (r0 r1 : Word) : (s.complete r0 r1).dialect = s.dialect := rfl
@[simp] theorem State.complete_err (r0 r1 : Word) : (s.complete r0 r1).err = s.err := rfl
@[simp] theorem State.complete_fsm (r0 r1 : Word) : (s.complete r0 r1).fsm = s.fsm := rfl
@[simp] theorem State.complete_outer (r0 r1 : Word) : (s.complete r0 r1).outer = s.outer := rfl
@[simp] theorem State.complete_errInfo (r0 r1 : Word) : (s.complete r0 r1).errInfo = s.errInfo := rfl
@[simp] theorem State.complete_chipId (r0 r1 : Word) : (s.complete r0 r1).chipId = s.chipId := rfl
@[simp] theorem State.complete_res0 (r0 r1 : Word) : (s.complete r0 r1).res0 = r0 := rfl
@[simp] theorem State.complete_res1 (r0 r1 : Word) : (s.complete r0 r1).res1 = r1 := rfl
@[simp] theorem State.complete_dataOut (r0 r1 : Word) : (s.complete r0 r1).dataOut = s.dataOut := rfl
@[simp] theorem State.complete_seqIdx (r0 r1 : Word) : (s.complete r0 r1).seqIdx = s.seqIdx := rfl
@[simp] theorem State.complete_op (r0 r1 : Word) : (s.complete r0 r1).op = s.op := rfl
@[simp] theorem State.complete_aAddr (r0 r1 : Word) : (s.complete r0 r1).aAddr = s.aAddr := rfl
@[simp] theorem State.complete_aLen (r0 r1 : Word) : (s.complete r0 r1).aLen = s.aLen := rfl
@[simp] theorem State.complete_aBudget (r0 r1 : Word) : (s.complete r0 r1).aBudget = s.aBudget := rfl
@[simp] theorem State.complete_aWhole (r0 r1 : Word) : (s.complete r0 r1).aWhole = s.aWhole := rfl
@[simp] theorem State.complete_aData (r0 r1 : Word) : (s.complete r0 r1).aData = s.aData := rfl
@[simp] theorem State.complete_cur (r0 r1 : Word) : (s.complete r0 r1).cur = s.cur := rfl
@[simp] theorem State.complete_att (r0 r1 : Word) : (s.complete r0 r1).att = s.att := rfl
@[simp] theorem State.complete_blkIdx (r0 r1 : Word) : (s.complete r0 r1).blkIdx = s.blkIdx := rfl
@[simp] theorem State.complete_byteIdx (r0 r1 : Word) : (s.complete r0 r1).byteIdx = s.byteIdx := rfl
@[simp] theorem State.complete_doneBytes (r0 r1 : Word) : (s.complete r0 r1).doneBytes = s.doneBytes := rfl
@[simp] theorem State.complete_out (r0 r1 : Word) : (s.complete r0 r1).out = s.out := rfl
@[simp] theorem State.complete_locAddr (r0 r1 : Word) : (s.complete r0 r1).locAddr = s.locAddr := rfl
@[simp] theorem State.complete_locLen (r0 r1 : Word) : (s.complete r0 r1).locLen = s.locLen := rfl
@[simp] theorem State.complete_locVal (r0 r1 : Word) : (s.complete r0 r1).locVal = s.locVal := rfl
@[simp] theorem State.complete_locId (r0 r1 : Word) : (s.complete r0 r1).locId = s.locId := rfl
@[simp] theorem State.complete_todo (r0 r1 : Word) : (s.complete r0 r1).todo = .idle := rfl
@[simp] theorem State.complete_held (r0 r1 : Word) : (s.complete r0 r1).held = s.held := rfl
@[simp] theorem State.complete_dataIn (r0 r1 : Word) : (s.complete r0 r1).dataIn = s.dataIn := rfl
@[simp] theorem State.complete_host (r0 r1 : Word) : (s.complete r0 r1).host = s.host := rfl
@[simp] theorem State.complete_readData (r0 r1 : Word) : (s.complete r0 r1).readData = s.readData := rfl
@[simp] theorem State.complete_answers (r0 r1 : Word) : (s.complete r0 r1).answers = s.answers := rfl
@[simp] theorem State.complete_sends (r0 r1 : Word) : (s.complete r0 r1).sends = s.sends := rfl
@[simp] theorem State.complete_sent (r0 r1 : Word) : (s.complete r0 r1).sent = s.sent := rfl
@[simp] theorem State.complete_progress (r0 r1 : Word) : (s.complete r0 r1).progress = s.progress := rfl

/-! ### finish -/

@[simp] theorem State.finish_cfg (r0 r1 : Word) : (s.finish r0 r1).cfg = s.cfg := rfl
@[simp] theorem State.finish_reqLatch (r0 r1 : Word) : (s.finish r0 r1).reqLatch = s.reqLatch := rfl
@[simp] theorem State.finish_arg0 (r0 r1 : Word) : (s.finish r0 r1).arg0 = s.arg0 := rfl
@[simp] theorem State.finish_arg1 (r0 r1 : Word) : (s.finish r0 r1).arg1 = s.arg1 := rfl
@[simp] theorem State.finish_arg2 (r0 r1 : Word) : (s.finish r0 r1).arg2 = s.arg2 := rfl
@[simp] theorem State.finish_arg3 (r0 r1 : Word) : (s.finish r0 r1).arg3 = s.arg3 := rfl
@[simp] theorem State.finish_busy (r0 r1 : Word) : (s.finish r0 r1).busy = false := rfl
@[simp] theorem State.finish_done (r0 r1 : Word) : (s.finish r0 r1).done = true := rfl
@[simp] theorem State.finish_dialect (r0 r1 : Word) : (s.finish r0 r1).dialect = s.dialect := rfl
@[simp] theorem State.finish_err (r0 r1 : Word) : (s.finish r0 r1).err = s.err := rfl
@[simp] theorem State.finish_fsm (r0 r1 : Word) : (s.finish r0 r1).fsm = .idle := rfl
@[simp] theorem State.finish_outer (r0 r1 : Word) : (s.finish r0 r1).outer = .none := rfl
@[simp] theorem State.finish_errInfo (r0 r1 : Word) : (s.finish r0 r1).errInfo = s.errInfo := rfl
@[simp] theorem State.finish_chipId (r0 r1 : Word) : (s.finish r0 r1).chipId = s.chipId := rfl
@[simp] theorem State.finish_res0 (r0 r1 : Word) : (s.finish r0 r1).res0 = r0 := rfl
@[simp] theorem State.finish_res1 (r0 r1 : Word) : (s.finish r0 r1).res1 = r1 := rfl
@[simp] theorem State.finish_dataOut (r0 r1 : Word) : (s.finish r0 r1).dataOut = s.dataOut := rfl
@[simp] theorem State.finish_seqIdx (r0 r1 : Word) : (s.finish r0 r1).seqIdx = s.seqIdx := rfl
@[simp] theorem State.finish_op (r0 r1 : Word) : (s.finish r0 r1).op = s.op := rfl
@[simp] theorem State.finish_aAddr (r0 r1 : Word) : (s.finish r0 r1).aAddr = s.aAddr := rfl
@[simp] theorem State.finish_aLen (r0 r1 : Word) : (s.finish r0 r1).aLen = s.aLen := rfl
@[simp] theorem State.finish_aBudget (r0 r1 : Word) : (s.finish r0 r1).aBudget = s.aBudget := rfl
@[simp] theorem State.finish_aWhole (r0 r1 : Word) : (s.finish r0 r1).aWhole = s.aWhole := rfl
@[simp] theorem State.finish_aData (r0 r1 : Word) : (s.finish r0 r1).aData = s.aData := rfl
@[simp] theorem State.finish_cur (r0 r1 : Word) : (s.finish r0 r1).cur = s.cur := rfl
@[simp] theorem State.finish_att (r0 r1 : Word) : (s.finish r0 r1).att = s.att := rfl
@[simp] theorem State.finish_blkIdx (r0 r1 : Word) : (s.finish r0 r1).blkIdx = s.blkIdx := rfl
@[simp] theorem State.finish_byteIdx (r0 r1 : Word) : (s.finish r0 r1).byteIdx = s.byteIdx := rfl
@[simp] theorem State.finish_doneBytes (r0 r1 : Word) : (s.finish r0 r1).doneBytes = s.doneBytes := rfl
@[simp] theorem State.finish_out (r0 r1 : Word) : (s.finish r0 r1).out = s.out := rfl
@[simp] theorem State.finish_locAddr (r0 r1 : Word) : (s.finish r0 r1).locAddr = s.locAddr := rfl
@[simp] theorem State.finish_locLen (r0 r1 : Word) : (s.finish r0 r1).locLen = s.locLen := rfl
@[simp] theorem State.finish_locVal (r0 r1 : Word) : (s.finish r0 r1).locVal = s.locVal := rfl
@[simp] theorem State.finish_locId (r0 r1 : Word) : (s.finish r0 r1).locId = s.locId := rfl
@[simp] theorem State.finish_todo (r0 r1 : Word) : (s.finish r0 r1).todo = .idle := rfl
@[simp] theorem State.finish_held (r0 r1 : Word) : (s.finish r0 r1).held = s.held := rfl
@[simp] theorem State.finish_dataIn (r0 r1 : Word) : (s.finish r0 r1).dataIn = s.dataIn := rfl
@[simp] theorem State.finish_host (r0 r1 : Word) : (s.finish r0 r1).host = s.host := rfl
@[simp] theorem State.finish_readData (r0 r1 : Word) : (s.finish r0 r1).readData = s.readData := rfl
@[simp] theorem State.finish_answers (r0 r1 : Word) : (s.finish r0 r1).answers = s.answers := rfl
@[simp] theorem State.finish_sends (r0 r1 : Word) : (s.finish r0 r1).sends = s.sends := rfl
@[simp] theorem State.finish_sent (r0 r1 : Word) : (s.finish r0 r1).sent = s.sent := rfl
@[simp] theorem State.finish_progress (r0 r1 : Word) : (s.finish r0 r1).progress = s.progress := rfl

/-! ### latch -/

@[simp] theorem State.latch_cfg (w : Word) : (s.latch w).cfg = s.cfg := rfl
@[simp] theorem State.latch_reqLatch (w : Word) : (s.latch w).reqLatch = w := rfl
@[simp] theorem State.latch_arg0 (w : Word) : (s.latch w).arg0 = s.arg0 := rfl
@[simp] theorem State.latch_arg1 (w : Word) : (s.latch w).arg1 = s.arg1 := rfl
@[simp] theorem State.latch_arg2 (w : Word) : (s.latch w).arg2 = s.arg2 := rfl
@[simp] theorem State.latch_arg3 (w : Word) : (s.latch w).arg3 = s.arg3 := rfl
@[simp] theorem State.latch_busy (w : Word) : (s.latch w).busy = s.busy := rfl
@[simp] theorem State.latch_done (w : Word) : (s.latch w).done = false := rfl
@[simp] theorem State.latch_dialect (w : Word) : (s.latch w).dialect = s.dialect := rfl
@[simp] theorem State.latch_err (w : Word) : (s.latch w).err = .ok := rfl
@[simp] theorem State.latch_fsm (w : Word) : (s.latch w).fsm = s.fsm := rfl
@[simp] theorem State.latch_outer (w : Word) : (s.latch w).outer = s.outer := rfl
@[simp] theorem State.latch_errInfo (w : Word) : (s.latch w).errInfo = 0 := rfl
@[simp] theorem State.latch_chipId (w : Word) : (s.latch w).chipId = s.chipId := rfl
@[simp] theorem State.latch_res0 (w : Word) : (s.latch w).res0 = 0 := rfl
@[simp] theorem State.latch_res1 (w : Word) : (s.latch w).res1 = 0 := rfl
@[simp] theorem State.latch_dataOut (w : Word) : (s.latch w).dataOut = [] := rfl
@[simp] theorem State.latch_seqIdx (w : Word) : (s.latch w).seqIdx = s.seqIdx := rfl
@[simp] theorem State.latch_op (w : Word) : (s.latch w).op = w.extractLsb' 0 4 := rfl
@[simp] theorem State.latch_aAddr (w : Word) : (s.latch w).aAddr = s.arg0 := rfl
@[simp] theorem State.latch_aLen (w : Word) : (s.latch w).aLen = s.arg1 := rfl
@[simp] theorem State.latch_aBudget (w : Word) : (s.latch w).aBudget = s.arg2 := rfl
@[simp] theorem State.latch_aWhole (w : Word) : (s.latch w).aWhole = w.getLsbD 4 := rfl
@[simp] theorem State.latch_aData (w : Word) : (s.latch w).aData = s.dataIn := rfl
@[simp] theorem State.latch_cur (w : Word) : (s.latch w).cur = s.cur := rfl
@[simp] theorem State.latch_att (w : Word) : (s.latch w).att = s.att := rfl
@[simp] theorem State.latch_blkIdx (w : Word) : (s.latch w).blkIdx = s.blkIdx := rfl
@[simp] theorem State.latch_byteIdx (w : Word) : (s.latch w).byteIdx = s.byteIdx := rfl
@[simp] theorem State.latch_doneBytes (w : Word) : (s.latch w).doneBytes = s.doneBytes := rfl
@[simp] theorem State.latch_out (w : Word) : (s.latch w).out = s.out := rfl
@[simp] theorem State.latch_locAddr (w : Word) : (s.latch w).locAddr = s.locAddr := rfl
@[simp] theorem State.latch_locLen (w : Word) : (s.latch w).locLen = s.locLen := rfl
@[simp] theorem State.latch_locVal (w : Word) : (s.latch w).locVal = s.locVal := rfl
@[simp] theorem State.latch_locId (w : Word) : (s.latch w).locId = s.locId := rfl
@[simp] theorem State.latch_todo (w : Word) : (s.latch w).todo = s.todo := rfl
@[simp] theorem State.latch_held (w : Word) : (s.latch w).held = none := rfl
@[simp] theorem State.latch_dataIn (w : Word) : (s.latch w).dataIn = s.dataIn := rfl
@[simp] theorem State.latch_host (w : Word) : (s.latch w).host = s.host := rfl
@[simp] theorem State.latch_readData (w : Word) : (s.latch w).readData = s.readData := rfl
@[simp] theorem State.latch_answers (w : Word) : (s.latch w).answers = s.answers := rfl
@[simp] theorem State.latch_sends (w : Word) : (s.latch w).sends = s.sends := rfl
@[simp] theorem State.latch_sent (w : Word) : (s.latch w).sent = s.sent := rfl
@[simp] theorem State.latch_progress (w : Word) : (s.latch w).progress = s.progress := rfl

/-! ### send -/

@[simp] theorem State.send_cfg (f : Frame) (n t : Nat) : (s.send f n t).cfg = s.cfg := rfl
@[simp] theorem State.send_reqLatch (f : Frame) (n t : Nat) : (s.send f n t).reqLatch = s.reqLatch := rfl
@[simp] theorem State.send_arg0 (f : Frame) (n t : Nat) : (s.send f n t).arg0 = s.arg0 := rfl
@[simp] theorem State.send_arg1 (f : Frame) (n t : Nat) : (s.send f n t).arg1 = s.arg1 := rfl
@[simp] theorem State.send_arg2 (f : Frame) (n t : Nat) : (s.send f n t).arg2 = s.arg2 := rfl
@[simp] theorem State.send_arg3 (f : Frame) (n t : Nat) : (s.send f n t).arg3 = s.arg3 := rfl
@[simp] theorem State.send_busy (f : Frame) (n t : Nat) : (s.send f n t).busy = s.busy := rfl
@[simp] theorem State.send_done (f : Frame) (n t : Nat) : (s.send f n t).done = s.done := rfl
@[simp] theorem State.send_dialect (f : Frame) (n t : Nat) : (s.send f n t).dialect = s.dialect := rfl
@[simp] theorem State.send_err (f : Frame) (n t : Nat) : (s.send f n t).err = s.err := rfl
@[simp] theorem State.send_fsm (f : Frame) (n t : Nat) : (s.send f n t).fsm = s.fsm := rfl
@[simp] theorem State.send_outer (f : Frame) (n t : Nat) : (s.send f n t).outer = s.outer := rfl
@[simp] theorem State.send_errInfo (f : Frame) (n t : Nat) : (s.send f n t).errInfo = s.errInfo := rfl
@[simp] theorem State.send_chipId (f : Frame) (n t : Nat) : (s.send f n t).chipId = s.chipId := rfl
@[simp] theorem State.send_res0 (f : Frame) (n t : Nat) : (s.send f n t).res0 = s.res0 := rfl
@[simp] theorem State.send_res1 (f : Frame) (n t : Nat) : (s.send f n t).res1 = s.res1 := rfl
@[simp] theorem State.send_dataOut (f : Frame) (n t : Nat) : (s.send f n t).dataOut = s.dataOut := rfl
@[simp] theorem State.send_seqIdx (f : Frame) (n t : Nat) : (s.send f n t).seqIdx = s.seqIdx := rfl
@[simp] theorem State.send_op (f : Frame) (n t : Nat) : (s.send f n t).op = s.op := rfl
@[simp] theorem State.send_aAddr (f : Frame) (n t : Nat) : (s.send f n t).aAddr = s.aAddr := rfl
@[simp] theorem State.send_aLen (f : Frame) (n t : Nat) : (s.send f n t).aLen = s.aLen := rfl
@[simp] theorem State.send_aBudget (f : Frame) (n t : Nat) : (s.send f n t).aBudget = s.aBudget := rfl
@[simp] theorem State.send_aWhole (f : Frame) (n t : Nat) : (s.send f n t).aWhole = s.aWhole := rfl
@[simp] theorem State.send_aData (f : Frame) (n t : Nat) : (s.send f n t).aData = s.aData := rfl
@[simp] theorem State.send_cur (f : Frame) (n t : Nat) : (s.send f n t).cur = s.cur := rfl
@[simp] theorem State.send_att (f : Frame) (n t : Nat) : (s.send f n t).att = s.att := rfl
@[simp] theorem State.send_blkIdx (f : Frame) (n t : Nat) : (s.send f n t).blkIdx = s.blkIdx := rfl
@[simp] theorem State.send_byteIdx (f : Frame) (n t : Nat) : (s.send f n t).byteIdx = s.byteIdx := rfl
@[simp] theorem State.send_doneBytes (f : Frame) (n t : Nat) : (s.send f n t).doneBytes = s.doneBytes := rfl
@[simp] theorem State.send_out (f : Frame) (n t : Nat) : (s.send f n t).out = s.out := rfl
@[simp] theorem State.send_locAddr (f : Frame) (n t : Nat) : (s.send f n t).locAddr = s.locAddr := rfl
@[simp] theorem State.send_locLen (f : Frame) (n t : Nat) : (s.send f n t).locLen = s.locLen := rfl
@[simp] theorem State.send_locVal (f : Frame) (n t : Nat) : (s.send f n t).locVal = s.locVal := rfl
@[simp] theorem State.send_locId (f : Frame) (n t : Nat) : (s.send f n t).locId = s.locId := rfl
@[simp] theorem State.send_todo (f : Frame) (n t : Nat) : (s.send f n t).todo = s.todo := rfl
@[simp] theorem State.send_held (f : Frame) (n t : Nat) : (s.send f n t).held = s.held := rfl
@[simp] theorem State.send_dataIn (f : Frame) (n t : Nat) : (s.send f n t).dataIn = s.dataIn := rfl
@[simp] theorem State.send_host (f : Frame) (n t : Nat) : (s.send f n t).host = s.host := rfl
@[simp] theorem State.send_readData (f : Frame) (n t : Nat) : (s.send f n t).readData = s.readData := rfl
@[simp] theorem State.send_answers (f : Frame) (n t : Nat) : (s.send f n t).answers = s.answers.tail := rfl
@[simp] theorem State.send_sends (f : Frame) (n t : Nat) : (s.send f n t).sends = s.sends + 1 := rfl
@[simp] theorem State.send_sent (f : Frame) (n t : Nat) : (s.send f n t).sent = s.sent ++ [⟨f, n, t⟩] := rfl
@[simp] theorem State.send_progress (f : Frame) (n t : Nat) : (s.send f n t).progress = s.progress := rfl

/-! ### emit -/

@[simp] theorem State.emit_cfg (c m : Nat) (l : Label) : (s.emit c m l).cfg = s.cfg := rfl
@[simp] theorem State.emit_reqLatch (c m : Nat) (l : Label) : (s.emit c m l).reqLatch = s.reqLatch := rfl
@[simp] theorem State.emit_arg0 (c m : Nat) (l : Label) : (s.emit c m l).arg0 = s.arg0 := rfl
@[simp] theorem State.emit_arg1 (c m : Nat) (l : Label) : (s.emit c m l).arg1 = s.arg1 := rfl
@[simp] theorem State.emit_arg2 (c m : Nat) (l : Label) : (s.emit c m l).arg2 = s.arg2 := rfl
@[simp] theorem State.emit_arg3 (c m : Nat) (l : Label) : (s.emit c m l).arg3 = s.arg3 := rfl
@[simp] theorem State.emit_busy (c m : Nat) (l : Label) : (s.emit c m l).busy = s.busy := rfl
@[simp] theorem State.emit_done (c m : Nat) (l : Label) : (s.emit c m l).done = s.done := rfl
@[simp] theorem State.emit_dialect (c m : Nat) (l : Label) : (s.emit c m l).dialect = s.dialect := rfl
@[simp] theorem State.emit_err (c m : Nat) (l : Label) : (s.emit c m l).err = s.err := rfl
@[simp] theorem State.emit_fsm (c m : Nat) (l : Label) : (s.emit c m l).fsm = s.fsm := rfl
@[simp] theorem State.emit_outer (c m : Nat) (l : Label) : (s.emit c m l).outer = s.outer := rfl
@[simp] theorem State.emit_errInfo (c m : Nat) (l : Label) : (s.emit c m l).errInfo = s.errInfo := rfl
@[simp] theorem State.emit_chipId (c m : Nat) (l : Label) : (s.emit c m l).chipId = s.chipId := rfl
@[simp] theorem State.emit_res0 (c m : Nat) (l : Label) : (s.emit c m l).res0 = s.res0 := rfl
@[simp] theorem State.emit_res1 (c m : Nat) (l : Label) : (s.emit c m l).res1 = s.res1 := rfl
@[simp] theorem State.emit_dataOut (c m : Nat) (l : Label) : (s.emit c m l).dataOut = s.dataOut := rfl
@[simp] theorem State.emit_seqIdx (c m : Nat) (l : Label) : (s.emit c m l).seqIdx = s.seqIdx := rfl
@[simp] theorem State.emit_op (c m : Nat) (l : Label) : (s.emit c m l).op = s.op := rfl
@[simp] theorem State.emit_aAddr (c m : Nat) (l : Label) : (s.emit c m l).aAddr = s.aAddr := rfl
@[simp] theorem State.emit_aLen (c m : Nat) (l : Label) : (s.emit c m l).aLen = s.aLen := rfl
@[simp] theorem State.emit_aBudget (c m : Nat) (l : Label) : (s.emit c m l).aBudget = s.aBudget := rfl
@[simp] theorem State.emit_aWhole (c m : Nat) (l : Label) : (s.emit c m l).aWhole = s.aWhole := rfl
@[simp] theorem State.emit_aData (c m : Nat) (l : Label) : (s.emit c m l).aData = s.aData := rfl
@[simp] theorem State.emit_cur (c m : Nat) (l : Label) : (s.emit c m l).cur = s.cur := rfl
@[simp] theorem State.emit_att (c m : Nat) (l : Label) : (s.emit c m l).att = s.att := rfl
@[simp] theorem State.emit_blkIdx (c m : Nat) (l : Label) : (s.emit c m l).blkIdx = s.blkIdx := rfl
@[simp] theorem State.emit_byteIdx (c m : Nat) (l : Label) : (s.emit c m l).byteIdx = s.byteIdx := rfl
@[simp] theorem State.emit_doneBytes (c m : Nat) (l : Label) : (s.emit c m l).doneBytes = s.doneBytes := rfl
@[simp] theorem State.emit_out (c m : Nat) (l : Label) : (s.emit c m l).out = s.out := rfl
@[simp] theorem State.emit_locAddr (c m : Nat) (l : Label) : (s.emit c m l).locAddr = s.locAddr := rfl
@[simp] theorem State.emit_locLen (c m : Nat) (l : Label) : (s.emit c m l).locLen = s.locLen := rfl
@[simp] theorem State.emit_locVal (c m : Nat) (l : Label) : (s.emit c m l).locVal = s.locVal := rfl
@[simp] theorem State.emit_locId (c m : Nat) (l : Label) : (s.emit c m l).locId = s.locId := rfl
@[simp] theorem State.emit_todo (c m : Nat) (l : Label) : (s.emit c m l).todo = s.todo := rfl
@[simp] theorem State.emit_held (c m : Nat) (l : Label) : (s.emit c m l).held = s.held := rfl
@[simp] theorem State.emit_dataIn (c m : Nat) (l : Label) : (s.emit c m l).dataIn = s.dataIn := rfl
@[simp] theorem State.emit_host (c m : Nat) (l : Label) : (s.emit c m l).host = s.host := rfl
@[simp] theorem State.emit_readData (c m : Nat) (l : Label) : (s.emit c m l).readData = s.readData := rfl
@[simp] theorem State.emit_answers (c m : Nat) (l : Label) : (s.emit c m l).answers = s.answers := rfl
@[simp] theorem State.emit_sends (c m : Nat) (l : Label) : (s.emit c m l).sends = s.sends := rfl
@[simp] theorem State.emit_sent (c m : Nat) (l : Label) : (s.emit c m l).sent = s.sent := rfl
@[simp] theorem State.emit_progress (c m : Nat) (l : Label) : (s.emit c m l).progress = s.progress ++ [⟨BitVec.ofNat 32 c, BitVec.ofNat 32 m, l⟩] := rfl

/-! ### toCompletion -/

@[simp] theorem State.toCompletion_cfg : (s.toCompletion).cfg = s.cfg := rfl
@[simp] theorem State.toCompletion_reqLatch : (s.toCompletion).reqLatch = s.reqLatch := rfl
@[simp] theorem State.toCompletion_arg0 : (s.toCompletion).arg0 = s.arg0 := rfl
@[simp] theorem State.toCompletion_arg1 : (s.toCompletion).arg1 = s.arg1 := rfl
@[simp] theorem State.toCompletion_arg2 : (s.toCompletion).arg2 = s.arg2 := rfl
@[simp] theorem State.toCompletion_arg3 : (s.toCompletion).arg3 = s.arg3 := rfl
@[simp] theorem State.toCompletion_busy : (s.toCompletion).busy = s.busy := rfl
@[simp] theorem State.toCompletion_done : (s.toCompletion).done = s.done := rfl
@[simp] theorem State.toCompletion_dialect : (s.toCompletion).dialect = s.dialect := rfl
@[simp] theorem State.toCompletion_err : (s.toCompletion).err = s.err := rfl
@[simp] theorem State.toCompletion_fsm : (s.toCompletion).fsm = s.fsm := rfl
@[simp] theorem State.toCompletion_outer : (s.toCompletion).outer = s.outer := rfl
@[simp] theorem State.toCompletion_errInfo : (s.toCompletion).errInfo = s.errInfo := rfl
@[simp] theorem State.toCompletion_chipId : (s.toCompletion).chipId = s.chipId := rfl
@[simp] theorem State.toCompletion_res0 : (s.toCompletion).res0 = s.res0 := rfl
@[simp] theorem State.toCompletion_res1 : (s.toCompletion).res1 = s.res1 := rfl
@[simp] theorem State.toCompletion_dataOut : (s.toCompletion).dataOut = s.dataOut := rfl
@[simp] theorem State.toCompletion_seqIdx : (s.toCompletion).seqIdx = s.seqIdx := rfl
@[simp] theorem State.toCompletion_op : (s.toCompletion).op = s.op := rfl
@[simp] theorem State.toCompletion_aAddr : (s.toCompletion).aAddr = s.aAddr := rfl
@[simp] theorem State.toCompletion_aLen : (s.toCompletion).aLen = s.aLen := rfl
@[simp] theorem State.toCompletion_aBudget : (s.toCompletion).aBudget = s.aBudget := rfl
@[simp] theorem State.toCompletion_aWhole : (s.toCompletion).aWhole = s.aWhole := rfl
@[simp] theorem State.toCompletion_aData : (s.toCompletion).aData = s.aData := rfl
@[simp] theorem State.toCompletion_cur : (s.toCompletion).cur = s.cur := rfl
@[simp] theorem State.toCompletion_att : (s.toCompletion).att = s.att := rfl
@[simp] theorem State.toCompletion_blkIdx : (s.toCompletion).blkIdx = s.blkIdx := rfl
@[simp] theorem State.toCompletion_byteIdx : (s.toCompletion).byteIdx = s.byteIdx := rfl
@[simp] theorem State.toCompletion_doneBytes : (s.toCompletion).doneBytes = s.doneBytes := rfl
@[simp] theorem State.toCompletion_out : (s.toCompletion).out = s.out := rfl
@[simp] theorem State.toCompletion_locAddr : (s.toCompletion).locAddr = s.locAddr := rfl
@[simp] theorem State.toCompletion_locLen : (s.toCompletion).locLen = s.locLen := rfl
@[simp] theorem State.toCompletion_locVal : (s.toCompletion).locVal = s.locVal := rfl
@[simp] theorem State.toCompletion_locId : (s.toCompletion).locId = s.locId := rfl
@[simp] theorem State.toCompletion_todo : (s.toCompletion).todo = .complete := rfl
@[simp] theorem State.toCompletion_held : (s.toCompletion).held = s.held := rfl
@[simp] theorem State.toCompletion_dataIn : (s.toCompletion).dataIn = s.dataIn := rfl
@[simp] theorem State.toCompletion_host : (s.toCompletion).host = s.host := rfl
@[simp] theorem State.toCompletion_readData : (s.toCompletion).readData = s.readData := rfl
@[simp] theorem State.toCompletion_answers : (s.toCompletion).answers = s.answers := rfl
@[simp] theorem State.toCompletion_sends : (s.toCompletion).sends = s.sends := rfl
@[simp] theorem State.toCompletion_sent : (s.toCompletion).sent = s.sent := rfl
@[simp] theorem State.toCompletion_progress : (s.toCompletion).progress = s.progress := rfl

/-! ### toRead -/

@[simp] theorem State.toRead_cfg (a : Word) : (s.toRead a).cfg = s.cfg := rfl
@[simp] theorem State.toRead_reqLatch (a : Word) : (s.toRead a).reqLatch = s.reqLatch := rfl
@[simp] theorem State.toRead_arg0 (a : Word) : (s.toRead a).arg0 = s.arg0 := rfl
@[simp] theorem State.toRead_arg1 (a : Word) : (s.toRead a).arg1 = s.arg1 := rfl
@[simp] theorem State.toRead_arg2 (a : Word) : (s.toRead a).arg2 = s.arg2 := rfl
@[simp] theorem State.toRead_arg3 (a : Word) : (s.toRead a).arg3 = s.arg3 := rfl
@[simp] theorem State.toRead_busy (a : Word) : (s.toRead a).busy = s.busy := rfl
@[simp] theorem State.toRead_done (a : Word) : (s.toRead a).done = s.done := rfl
@[simp] theorem State.toRead_dialect (a : Word) : (s.toRead a).dialect = s.dialect := rfl
@[simp] theorem State.toRead_err (a : Word) : (s.toRead a).err = s.err := rfl
@[simp] theorem State.toRead_fsm (a : Word) : (s.toRead a).fsm = s.fsm := rfl
@[simp] theorem State.toRead_outer (a : Word) : (s.toRead a).outer = s.outer := rfl
@[simp] theorem State.toRead_errInfo (a : Word) : (s.toRead a).errInfo = s.errInfo := rfl
@[simp] theorem State.toRead_chipId (a : Word) : (s.toRead a).chipId = s.chipId := rfl
@[simp] theorem State.toRead_res0 (a : Word) : (s.toRead a).res0 = s.res0 := rfl
@[simp] theorem State.toRead_res1 (a : Word) : (s.toRead a).res1 = s.res1 := rfl
@[simp] theorem State.toRead_dataOut (a : Word) : (s.toRead a).dataOut = s.dataOut := rfl
@[simp] theorem State.toRead_seqIdx (a : Word) : (s.toRead a).seqIdx = s.seqIdx := rfl
@[simp] theorem State.toRead_op (a : Word) : (s.toRead a).op = s.op := rfl
@[simp] theorem State.toRead_aAddr (a : Word) : (s.toRead a).aAddr = s.aAddr := rfl
@[simp] theorem State.toRead_aLen (a : Word) : (s.toRead a).aLen = s.aLen := rfl
@[simp] theorem State.toRead_aBudget (a : Word) : (s.toRead a).aBudget = s.aBudget := rfl
@[simp] theorem State.toRead_aWhole (a : Word) : (s.toRead a).aWhole = s.aWhole := rfl
@[simp] theorem State.toRead_aData (a : Word) : (s.toRead a).aData = s.aData := rfl
@[simp] theorem State.toRead_cur (a : Word) : (s.toRead a).cur = a := rfl
@[simp] theorem State.toRead_att (a : Word) : (s.toRead a).att = s.att := rfl
@[simp] theorem State.toRead_blkIdx (a : Word) : (s.toRead a).blkIdx = s.blkIdx := rfl
@[simp] theorem State.toRead_byteIdx (a : Word) : (s.toRead a).byteIdx = s.byteIdx := rfl
@[simp] theorem State.toRead_doneBytes (a : Word) : (s.toRead a).doneBytes = s.doneBytes := rfl
@[simp] theorem State.toRead_out (a : Word) : (s.toRead a).out = s.out := rfl
@[simp] theorem State.toRead_locAddr (a : Word) : (s.toRead a).locAddr = s.locAddr := rfl
@[simp] theorem State.toRead_locLen (a : Word) : (s.toRead a).locLen = s.locLen := rfl
@[simp] theorem State.toRead_locVal (a : Word) : (s.toRead a).locVal = s.locVal := rfl
@[simp] theorem State.toRead_locId (a : Word) : (s.toRead a).locId = s.locId := rfl
@[simp] theorem State.toRead_todo (a : Word) : (s.toRead a).todo = .read := rfl
@[simp] theorem State.toRead_held (a : Word) : (s.toRead a).held = s.held := rfl
@[simp] theorem State.toRead_dataIn (a : Word) : (s.toRead a).dataIn = s.dataIn := rfl
@[simp] theorem State.toRead_host (a : Word) : (s.toRead a).host = s.host := rfl
@[simp] theorem State.toRead_readData (a : Word) : (s.toRead a).readData = s.readData := rfl
@[simp] theorem State.toRead_answers (a : Word) : (s.toRead a).answers = s.answers := rfl
@[simp] theorem State.toRead_sends (a : Word) : (s.toRead a).sends = s.sends := rfl
@[simp] theorem State.toRead_sent (a : Word) : (s.toRead a).sent = s.sent := rfl
@[simp] theorem State.toRead_progress (a : Word) : (s.toRead a).progress = s.progress := rfl

/-! ### startPoll -/

@[simp] theorem State.startPoll_cfg (a : Word) : (s.startPoll a).cfg = s.cfg := rfl
@[simp] theorem State.startPoll_reqLatch (a : Word) : (s.startPoll a).reqLatch = s.reqLatch := rfl
@[simp] theorem State.startPoll_arg0 (a : Word) : (s.startPoll a).arg0 = s.arg0 := rfl
@[simp] theorem State.startPoll_arg1 (a : Word) : (s.startPoll a).arg1 = s.arg1 := rfl
@[simp] theorem State.startPoll_arg2 (a : Word) : (s.startPoll a).arg2 = s.arg2 := rfl
@[simp] theorem State.startPoll_arg3 (a : Word) : (s.startPoll a).arg3 = s.arg3 := rfl
@[simp] theorem State.startPoll_busy (a : Word) : (s.startPoll a).busy = s.busy := rfl
@[simp] theorem State.startPoll_done (a : Word) : (s.startPoll a).done = s.done := rfl
@[simp] theorem State.startPoll_dialect (a : Word) : (s.startPoll a).dialect = s.dialect := rfl
@[simp] theorem State.startPoll_err (a : Word) : (s.startPoll a).err = s.err := rfl
@[simp] theorem State.startPoll_fsm (a : Word) : (s.startPoll a).fsm = s.fsm := rfl
@[simp] theorem State.startPoll_outer (a : Word) : (s.startPoll a).outer = s.outer := rfl
@[simp] theorem State.startPoll_errInfo (a : Word) : (s.startPoll a).errInfo = s.errInfo := rfl
@[simp] theorem State.startPoll_chipId (a : Word) : (s.startPoll a).chipId = s.chipId := rfl
@[simp] theorem State.startPoll_res0 (a : Word) : (s.startPoll a).res0 = s.res0 := rfl
@[simp] theorem State.startPoll_res1 (a : Word) : (s.startPoll a).res1 = s.res1 := rfl
@[simp] theorem State.startPoll_dataOut (a : Word) : (s.startPoll a).dataOut = s.dataOut := rfl
@[simp] theorem State.startPoll_seqIdx (a : Word) : (s.startPoll a).seqIdx = s.seqIdx := rfl
@[simp] theorem State.startPoll_op (a : Word) : (s.startPoll a).op = s.op := rfl
@[simp] theorem State.startPoll_aAddr (a : Word) : (s.startPoll a).aAddr = s.aAddr := rfl
@[simp] theorem State.startPoll_aLen (a : Word) : (s.startPoll a).aLen = s.aLen := rfl
@[simp] theorem State.startPoll_aBudget (a : Word) : (s.startPoll a).aBudget = s.aBudget := rfl
@[simp] theorem State.startPoll_aWhole (a : Word) : (s.startPoll a).aWhole = s.aWhole := rfl
@[simp] theorem State.startPoll_aData (a : Word) : (s.startPoll a).aData = s.aData := rfl
@[simp] theorem State.startPoll_cur (a : Word) : (s.startPoll a).cur = a := rfl
@[simp] theorem State.startPoll_att (a : Word) : (s.startPoll a).att = 0 := rfl
@[simp] theorem State.startPoll_blkIdx (a : Word) : (s.startPoll a).blkIdx = s.blkIdx := rfl
@[simp] theorem State.startPoll_byteIdx (a : Word) : (s.startPoll a).byteIdx = s.byteIdx := rfl
@[simp] theorem State.startPoll_doneBytes (a : Word) : (s.startPoll a).doneBytes = s.doneBytes := rfl
@[simp] theorem State.startPoll_out (a : Word) : (s.startPoll a).out = s.out := rfl
@[simp] theorem State.startPoll_locAddr (a : Word) : (s.startPoll a).locAddr = s.locAddr := rfl
@[simp] theorem State.startPoll_locLen (a : Word) : (s.startPoll a).locLen = s.locLen := rfl
@[simp] theorem State.startPoll_locVal (a : Word) : (s.startPoll a).locVal = s.locVal := rfl
@[simp] theorem State.startPoll_locId (a : Word) : (s.startPoll a).locId = s.locId := rfl
@[simp] theorem State.startPoll_todo (a : Word) : (s.startPoll a).todo = .read := rfl
@[simp] theorem State.startPoll_held (a : Word) : (s.startPoll a).held = s.held := rfl
@[simp] theorem State.startPoll_dataIn (a : Word) : (s.startPoll a).dataIn = s.dataIn := rfl
@[simp] theorem State.startPoll_host (a : Word) : (s.startPoll a).host = s.host := rfl
@[simp] theorem State.startPoll_readData (a : Word) : (s.startPoll a).readData = s.readData := rfl
@[simp] theorem State.startPoll_answers (a : Word) : (s.startPoll a).answers = s.answers := rfl
@[simp] theorem State.startPoll_sends (a : Word) : (s.startPoll a).sends = s.sends := rfl
@[simp] theorem State.startPoll_sent (a : Word) : (s.startPoll a).sent = s.sent := rfl
@[simp] theorem State.startPoll_progress (a : Word) : (s.startPoll a).progress = s.progress := rfl

/-! ### startErase -/

@[simp] theorem State.startErase_cfg (a n : Nat) : (s.startErase a n).cfg = s.cfg := rfl
@[simp] theorem State.startErase_reqLatch (a n : Nat) : (s.startErase a n).reqLatch = s.reqLatch := rfl
@[simp] theorem State.startErase_arg0 (a n : Nat) : (s.startErase a n).arg0 = s.arg0 := rfl
@[simp] theorem State.startErase_arg1 (a n : Nat) : (s.startErase a n).arg1 = s.arg1 := rfl
@[simp] theorem State.startErase_arg2 (a n : Nat) : (s.startErase a n).arg2 = s.arg2 := rfl
@[simp] theorem State.startErase_arg3 (a n : Nat) : (s.startErase a n).arg3 = s.arg3 := rfl
@[simp] theorem State.startErase_busy (a n : Nat) : (s.startErase a n).busy = s.busy := rfl
@[simp] theorem State.startErase_done (a n : Nat) : (s.startErase a n).done = s.done := rfl
@[simp] theorem State.startErase_dialect (a n : Nat) : (s.startErase a n).dialect = s.dialect := rfl
@[simp] theorem State.startErase_err (a n : Nat) : (s.startErase a n).err = s.err := rfl
@[simp] theorem State.startErase_fsm (a n : Nat) : (s.startErase a n).fsm = .erasing := rfl
@[simp] theorem State.startErase_outer (a n : Nat) : (s.startErase a n).outer = s.outer := rfl
@[simp] theorem State.startErase_errInfo (a n : Nat) : (s.startErase a n).errInfo = s.errInfo := rfl
@[simp] theorem State.startErase_chipId (a n : Nat) : (s.startErase a n).chipId = s.chipId := rfl
@[simp] theorem State.startErase_res0 (a n : Nat) : (s.startErase a n).res0 = s.res0 := rfl
@[simp] theorem State.startErase_res1 (a n : Nat) : (s.startErase a n).res1 = s.res1 := rfl
@[simp] theorem State.startErase_dataOut (a n : Nat) : (s.startErase a n).dataOut = s.dataOut := rfl
@[simp] theorem State.startErase_seqIdx (a n : Nat) : (s.startErase a n).seqIdx = 0 := rfl
@[simp] theorem State.startErase_op (a n : Nat) : (s.startErase a n).op = s.op := rfl
@[simp] theorem State.startErase_aAddr (a n : Nat) : (s.startErase a n).aAddr = s.aAddr := rfl
@[simp] theorem State.startErase_aLen (a n : Nat) : (s.startErase a n).aLen = s.aLen := rfl
@[simp] theorem State.startErase_aBudget (a n : Nat) : (s.startErase a n).aBudget = s.aBudget := rfl
@[simp] theorem State.startErase_aWhole (a n : Nat) : (s.startErase a n).aWhole = s.aWhole := rfl
@[simp] theorem State.startErase_aData (a n : Nat) : (s.startErase a n).aData = s.aData := rfl
@[simp] theorem State.startErase_cur (a n : Nat) : (s.startErase a n).cur = s.cur := rfl
@[simp] theorem State.startErase_att (a n : Nat) : (s.startErase a n).att = s.att := rfl
@[simp] theorem State.startErase_blkIdx (a n : Nat) : (s.startErase a n).blkIdx = s.blkIdx := rfl
@[simp] theorem State.startErase_byteIdx (a n : Nat) : (s.startErase a n).byteIdx = s.byteIdx := rfl
@[simp] theorem State.startErase_doneBytes (a n : Nat) : (s.startErase a n).doneBytes = s.doneBytes := rfl
@[simp] theorem State.startErase_out (a n : Nat) : (s.startErase a n).out = s.out := rfl
@[simp] theorem State.startErase_locAddr (a n : Nat) : (s.startErase a n).locAddr = BitVec.ofNat 32 a := rfl
@[simp] theorem State.startErase_locLen (a n : Nat) : (s.startErase a n).locLen = BitVec.ofNat 32 n := rfl
@[simp] theorem State.startErase_locVal (a n : Nat) : (s.startErase a n).locVal = s.locVal := rfl
@[simp] theorem State.startErase_locId (a n : Nat) : (s.startErase a n).locId = s.locId := rfl
@[simp] theorem State.startErase_todo (a n : Nat) : (s.startErase a n).todo = .cycle .erase := rfl
@[simp] theorem State.startErase_held (a n : Nat) : (s.startErase a n).held = s.held := rfl
@[simp] theorem State.startErase_dataIn (a n : Nat) : (s.startErase a n).dataIn = s.dataIn := rfl
@[simp] theorem State.startErase_host (a n : Nat) : (s.startErase a n).host = s.host := rfl
@[simp] theorem State.startErase_readData (a n : Nat) : (s.startErase a n).readData = s.readData := rfl
@[simp] theorem State.startErase_answers (a n : Nat) : (s.startErase a n).answers = s.answers := rfl
@[simp] theorem State.startErase_sends (a n : Nat) : (s.startErase a n).sends = s.sends := rfl
@[simp] theorem State.startErase_sent (a n : Nat) : (s.startErase a n).sent = s.sent := rfl
@[simp] theorem State.startErase_progress (a n : Nat) : (s.startErase a n).progress = s.progress := rfl

/-! ### startProgram -/

@[simp] theorem State.startProgram_cfg (a : Word) (v : Byte) : (s.startProgram a v).cfg = s.cfg := rfl
@[simp] theorem State.startProgram_reqLatch (a : Word) (v : Byte) : (s.startProgram a v).reqLatch = s.reqLatch := rfl
@[simp] theorem State.startProgram_arg0 (a : Word) (v : Byte) : (s.startProgram a v).arg0 = s.arg0 := rfl
@[simp] theorem State.startProgram_arg1 (a : Word) (v : Byte) : (s.startProgram a v).arg1 = s.arg1 := rfl
@[simp] theorem State.startProgram_arg2 (a : Word) (v : Byte) : (s.startProgram a v).arg2 = s.arg2 := rfl
@[simp] theorem State.startProgram_arg3 (a : Word) (v : Byte) : (s.startProgram a v).arg3 = s.arg3 := rfl
@[simp] theorem State.startProgram_busy (a : Word) (v : Byte) : (s.startProgram a v).busy = s.busy := rfl
@[simp] theorem State.startProgram_done (a : Word) (v : Byte) : (s.startProgram a v).done = s.done := rfl
@[simp] theorem State.startProgram_dialect (a : Word) (v : Byte) : (s.startProgram a v).dialect = s.dialect := rfl
@[simp] theorem State.startProgram_err (a : Word) (v : Byte) : (s.startProgram a v).err = s.err := rfl
@[simp] theorem State.startProgram_fsm (a : Word) (v : Byte) : (s.startProgram a v).fsm = .programming := rfl
@[simp] theorem State.startProgram_outer (a : Word) (v : Byte) : (s.startProgram a v).outer = s.outer := rfl
@[simp] theorem State.startProgram_errInfo (a : Word) (v : Byte) : (s.startProgram a v).errInfo = s.errInfo := rfl
@[simp] theorem State.startProgram_chipId (a : Word) (v : Byte) : (s.startProgram a v).chipId = s.chipId := rfl
@[simp] theorem State.startProgram_res0 (a : Word) (v : Byte) : (s.startProgram a v).res0 = s.res0 := rfl
@[simp] theorem State.startProgram_res1 (a : Word) (v : Byte) : (s.startProgram a v).res1 = s.res1 := rfl
@[simp] theorem State.startProgram_dataOut (a : Word) (v : Byte) : (s.startProgram a v).dataOut = s.dataOut := rfl
@[simp] theorem State.startProgram_seqIdx (a : Word) (v : Byte) : (s.startProgram a v).seqIdx = 0 := rfl
@[simp] theorem State.startProgram_op (a : Word) (v : Byte) : (s.startProgram a v).op = s.op := rfl
@[simp] theorem State.startProgram_aAddr (a : Word) (v : Byte) : (s.startProgram a v).aAddr = s.aAddr := rfl
@[simp] theorem State.startProgram_aLen (a : Word) (v : Byte) : (s.startProgram a v).aLen = s.aLen := rfl
@[simp] theorem State.startProgram_aBudget (a : Word) (v : Byte) : (s.startProgram a v).aBudget = s.aBudget := rfl
@[simp] theorem State.startProgram_aWhole (a : Word) (v : Byte) : (s.startProgram a v).aWhole = s.aWhole := rfl
@[simp] theorem State.startProgram_aData (a : Word) (v : Byte) : (s.startProgram a v).aData = s.aData := rfl
@[simp] theorem State.startProgram_cur (a : Word) (v : Byte) : (s.startProgram a v).cur = s.cur := rfl
@[simp] theorem State.startProgram_att (a : Word) (v : Byte) : (s.startProgram a v).att = s.att := rfl
@[simp] theorem State.startProgram_blkIdx (a : Word) (v : Byte) : (s.startProgram a v).blkIdx = s.blkIdx := rfl
@[simp] theorem State.startProgram_byteIdx (a : Word) (v : Byte) : (s.startProgram a v).byteIdx = s.byteIdx := rfl
@[simp] theorem State.startProgram_doneBytes (a : Word) (v : Byte) : (s.startProgram a v).doneBytes = s.doneBytes := rfl
@[simp] theorem State.startProgram_out (a : Word) (v : Byte) : (s.startProgram a v).out = s.out := rfl
@[simp] theorem State.startProgram_locAddr (a : Word) (v : Byte) : (s.startProgram a v).locAddr = a := rfl
@[simp] theorem State.startProgram_locLen (a : Word) (v : Byte) : (s.startProgram a v).locLen = s.locLen := rfl
@[simp] theorem State.startProgram_locVal (a : Word) (v : Byte) : (s.startProgram a v).locVal = v := rfl
@[simp] theorem State.startProgram_locId (a : Word) (v : Byte) : (s.startProgram a v).locId = s.locId := rfl
@[simp] theorem State.startProgram_todo (a : Word) (v : Byte) : (s.startProgram a v).todo = .cycle .program := rfl
@[simp] theorem State.startProgram_held (a : Word) (v : Byte) : (s.startProgram a v).held = s.held := rfl
@[simp] theorem State.startProgram_dataIn (a : Word) (v : Byte) : (s.startProgram a v).dataIn = s.dataIn := rfl
@[simp] theorem State.startProgram_host (a : Word) (v : Byte) : (s.startProgram a v).host = s.host := rfl
@[simp] theorem State.startProgram_readData (a : Word) (v : Byte) : (s.startProgram a v).readData = s.readData := rfl
@[simp] theorem State.startProgram_answers (a : Word) (v : Byte) : (s.startProgram a v).answers = s.answers := rfl
@[simp] theorem State.startProgram_sends (a : Word) (v : Byte) : (s.startProgram a v).sends = s.sends := rfl
@[simp] theorem State.startProgram_sent (a : Word) (v : Byte) : (s.startProgram a v).sent = s.sent := rfl
@[simp] theorem State.startProgram_progress (a : Word) (v : Byte) : (s.startProgram a v).progress = s.progress := rfl

end Sys2Proof.Machine
end

