-- ==== Sys2Proof/Laws/Ops.lean ====
section
/-! SUPPORT. What each shared operation of Ops.lean can do, said once: accepting a request, its checks, and one `Send`. -/

namespace Sys2Proof.Machine

variable {s : State}

/-! ### Acceptance (10_state.md R33, 60_exceptions.md R181) -/

theorem State.request_of_idle (w : Word) (rule : State → State) (h : s.busy = false) :
    s.request w rule = rule (s.latch w) := by
  simp [State.request, h]

theorem State.request_of_busy (w : Word) (rule : State → State) (h : s.busy = true) :
    s.request w rule = { s with held := some w } := by
  simp [State.request, h]

/-- Everything a request can do. -/
theorem State.request_cases (w : Word) (rule : State → State) :
    (s.busy = true ∧ s.request w rule = { s with held := some w }) ∨
    (s.busy = false ∧ s.request w rule = rule (s.latch w)) := by
  cases h : s.busy <;> simp [State.request, h]

@[simp] theorem State.guarded_nil (rule : State → State) : s.guarded [] rule = rule s := rfl

@[simp] theorem State.guarded_cons (c : Check) (cs : List Check) (rule : State → State) :
    s.guarded (c :: cs) rule = if c.failed then s.raise c.error c.info else s.guarded cs rule := by
  cases h : c.failed <;> simp [State.guarded, firstFailed, h]

/-- Everything the checks can do: one of them raises its error, or all pass and the rule runs. -/
theorem State.guarded_cases (cs : List Check) (rule : State → State) :
    (∃ c ∈ cs, c.failed = true ∧ s.guarded cs rule = s.raise c.error c.info) ∨
    ((∀ c ∈ cs, c.failed = false) ∧ s.guarded cs rule = rule s) := by
  induction cs with
  | nil => right; simp
  | cons c cs ih =>
    cases h : c.failed
    · rcases ih with ⟨d, hd, hf, he⟩ | ⟨ha, he⟩
      · exact .inl ⟨d, List.mem_cons_of_mem _ hd, hf, by simp [h, he]⟩
      · exact .inr ⟨by simpa [h] using ha, by simp [h, he]⟩
    · exact .inl ⟨c, List.mem_cons_self, h, by simp [h]⟩

/-! When each check fails (60_exceptions.md R181). -/

@[simp] theorem State.readyCheck_fails : s.readyCheck.failed = true ↔ s.dialect = .none := by
  simp [State.readyCheck]

@[simp] theorem State.dialectCheck_fails : s.dialectCheck.failed = true ↔ s.dialect = .typeB := by
  simp [State.dialectCheck]

@[simp] theorem State.budgetCheck_fails : s.budgetCheck.failed = true ↔ s.aBudget = 0 := by
  simp [State.budgetCheck]

@[simp] theorem State.addressCheck_fails : s.addressCheck.failed = true ↔ s.arg1.extractLsb' 24 8 ≠ 0 := by
  simp [State.addressCheck, State.addr24Excess]

@[simp] theorem State.payloadCheck_fails : s.payloadCheck.failed = true ↔ s.aData.length ≠ s.aLen.toNat := by
  simp [State.payloadCheck]

@[simp] theorem State.rangeCheck_fails {p : Prop} [Decidable p] : (s.rangeCheck (decide p)).failed = true ↔ ¬ p := by
  simp [State.rangeCheck]

@[simp] theorem State.rangeCheck_fails_and {p q : Prop} [Decidable p] [Decidable q] :
    (s.rangeCheck (decide p && decide q)).failed = true ↔ ¬ (p ∧ q) := by
  rw [← Bool.decide_and]
  exact State.rangeCheck_fails

/-! ### One `Send` (00_scope.md R9) -/

theorem State.nextAnswer_cons {a : Answer} {rest : List Answer} (h : s.answers = a :: rest) : s.nextAnswer = a := by
  simp [State.nextAnswer, h]

theorem State.sendCycle_ok {r : Reply} (h : s.nextAnswer = .ok r) (f : Frame) (a : Addr24) (next : State → State) :
    s.sendCycle f a next = next (s.send f 0 s.cfg.tCycle) := by
  simp [State.sendCycle, h]

theorem State.sendCycle_fail (h : s.nextAnswer = .fail) (f : Frame) (a : Addr24) (next : State → State) :
    s.sendCycle f a next = (s.send f 0 s.cfg.tCycle).raise .transportError (a.setWidth 32) := by
  simp [State.sendCycle, h]

theorem State.sendRead_ok {r : Reply} (h : s.nextAnswer = .ok r) (f : Frame) (a : Word)
    (next : Reply → State → State) : s.sendRead f a next = next r (s.send f 4 s.cfg.tRead) := by
  simp [State.sendRead, h]

theorem State.sendRead_fail (h : s.nextAnswer = .fail) (f : Frame) (a : Word) (next : Reply → State → State) :
    s.sendRead f a next = (s.send f 4 s.cfg.tRead).raise .transportError a := by
  simp [State.sendRead, h]

/-- Everything a cycle can do: the abort, or what follows it (60_exceptions.md R173). -/
theorem State.sendCycle_cases (f : Frame) (a : Addr24) (next : State → State) :
    (s.nextAnswer = .fail ∧
      s.sendCycle f a next = (s.send f 0 s.cfg.tCycle).raise .transportError (a.setWidth 32)) ∨
    (∃ r, s.nextAnswer = .ok r ∧ s.sendCycle f a next = next (s.send f 0 s.cfg.tCycle)) := by
  cases h : s.nextAnswer with
  | fail => exact .inl ⟨rfl, State.sendCycle_fail h f a next⟩
  | ok r => exact .inr ⟨r, rfl, State.sendCycle_ok h f a next⟩

/-- Everything a read can do. -/
theorem State.sendRead_cases (f : Frame) (a : Word) (next : Reply → State → State) :
    (s.nextAnswer = .fail ∧ s.sendRead f a next = (s.send f 4 s.cfg.tRead).raise .transportError a) ∨
    (∃ r, s.nextAnswer = .ok r ∧ s.sendRead f a next = next r (s.send f 4 s.cfg.tRead)) := by
  cases h : s.nextAnswer with
  | fail => exact .inl ⟨rfl, State.sendRead_fail h f a next⟩
  | ok r => exact .inr ⟨r, rfl, State.sendRead_ok h f a next⟩

end Sys2Proof.Machine
end

