-- ==== Sys2Proof/Laws/Bodies.lean ====
section
/-! SUPPORT. What the computation after a `Send` can do, said once: it moves the sequencer and leaves everything else
alone, or it raises the one error of its rule. -/

namespace Sys2Proof.Machine

/-- `t` is `s` but for the sequencer's own place: `FSM`, `SEQ_IDX`, `CUR`, `ATT`, the loop indexes, `OUT`, the model's
locals and the progress events. -/
structure State.SequencerOnly (s t : State) : Prop where
  cfg : t.cfg = s.cfg
  reqLatch : t.reqLatch = s.reqLatch
  arg0 : t.arg0 = s.arg0
  arg1 : t.arg1 = s.arg1
  arg2 : t.arg2 = s.arg2
  arg3 : t.arg3 = s.arg3
  busy : t.busy = s.busy
  done : t.done = s.done
  dialect : t.dialect = s.dialect
  err : t.err = s.err
  outer : t.outer = s.outer
  errInfo : t.errInfo = s.errInfo
  chipId : t.chipId = s.chipId
  res0 : t.res0 = s.res0
  res1 : t.res1 = s.res1
  dataOut : t.dataOut = s.dataOut
  op : t.op = s.op
  aAddr : t.aAddr = s.aAddr
  aLen : t.aLen = s.aLen
  aBudget : t.aBudget = s.aBudget
  aWhole : t.aWhole = s.aWhole
  aData : t.aData = s.aData
  held : t.held = s.held
  dataIn : t.dataIn = s.dataIn
  host : t.host = s.host
  readData : t.readData = s.readData
  answers : t.answers = s.answers
  sends : t.sends = s.sends
  sent : t.sent = s.sent

namespace State.SequencerOnly

variable {s t u : State}

protected theorem refl (s : State) : s.SequencerOnly s := by constructor <;> rfl

protected theorem trans (h : s.SequencerOnly t) (h' : t.SequencerOnly u) : s.SequencerOnly u := by
  constructor
  · exact h'.cfg.trans h.cfg
  · exact h'.reqLatch.trans h.reqLatch
  · exact h'.arg0.trans h.arg0
  · exact h'.arg1.trans h.arg1
  · exact h'.arg2.trans h.arg2
  · exact h'.arg3.trans h.arg3
  · exact h'.busy.trans h.busy
  · exact h'.done.trans h.done
  · exact h'.dialect.trans h.dialect
  · exact h'.err.trans h.err
  · exact h'.outer.trans h.outer
  · exact h'.errInfo.trans h.errInfo
  · exact h'.chipId.trans h.chipId
  · exact h'.res0.trans h.res0
  · exact h'.res1.trans h.res1
  · exact h'.dataOut.trans h.dataOut
  · exact h'.op.trans h.op
  · exact h'.aAddr.trans h.aAddr
  · exact h'.aLen.trans h.aLen
  · exact h'.aBudget.trans h.aBudget
  · exact h'.aWhole.trans h.aWhole
  · exact h'.aData.trans h.aData
  · exact h'.held.trans h.held
  · exact h'.dataIn.trans h.dataIn
  · exact h'.host.trans h.host
  · exact h'.readData.trans h.readData
  · exact h'.answers.trans h.answers
  · exact h'.sends.trans h.sends
  · exact h'.sent.trans h.sent

end State.SequencerOnly

variable (s : State)

theorem State.toCompletion_sequencerOnly : s.SequencerOnly s.toCompletion := by constructor <;> rfl

theorem State.programByteAt_sequencerOnly (i : Nat) : s.SequencerOnly (s.programByteAt i) := by
  unfold State.programByteAt
  split <;> constructor <;> rfl

theorem State.eraseChipBlock_sequencerOnly (i : Nat) (after : State → State)
    (h : ∀ u : State, u.SequencerOnly (after u)) : s.SequencerOnly (s.eraseChipBlock i after) := by
  unfold State.eraseChipBlock
  split
  · constructor <;> rfl
  · exact h s

theorem State.planBlockDone_sequencerOnly (after : State → State)
    (h : ∀ u : State, u.SequencerOnly (after u)) : s.SequencerOnly (s.planBlockDone after) := by
  unfold State.planBlockDone
  refine State.SequencerOnly.trans ?_ (State.eraseChipBlock_sequencerOnly _ _ after h)
  constructor <;> rfl

theorem State.minimalEraseBlock_sequencerOnly (i : Nat) : s.SequencerOnly (s.minimalEraseBlock i) := by
  unfold State.minimalEraseBlock
  dsimp only
  split
  · constructor <;> rfl
  · refine State.SequencerOnly.trans ?_ (State.programByteAt_sequencerOnly _ 0)
    constructor <;> rfl

theorem State.blockDone_sequencerOnly : s.SequencerOnly s.blockDone := by
  unfold State.blockDone
  split
  · exact s.toCompletion_sequencerOnly
  · exact s.planBlockDone_sequencerOnly _ State.toCompletion_sequencerOnly
  · split
    · exact s.planBlockDone_sequencerOnly _ fun u => u.programByteAt_sequencerOnly 0
    · exact s.minimalEraseBlock_sequencerOnly _

theorem State.pollBlockFrom_sequencerOnly (o : Nat) : s.SequencerOnly (s.pollBlockFrom o) := by
  unfold State.pollBlockFrom
  split
  · constructor <;> rfl
  · exact s.blockDone_sequencerOnly

theorem State.byteDone_sequencerOnly : s.SequencerOnly s.byteDone := by
  unfold State.byteDone
  split
  · exact s.programByteAt_sequencerOnly _
  · exact s.toCompletion_sequencerOnly
  · exact s.toCompletion_sequencerOnly

theorem State.wordRead_sequencerOnly (r : Reply) : s.SequencerOnly (s.wordRead r) := by
  unfold State.wordRead
  dsimp only
  split <;> constructor <;> rfl

/-- Everything a missed poll read can do (43 R141, R143). -/
theorem State.pollMissed_cases :
    (s.att + 1 = s.aBudget ∧ s.pollMissed = { s with att := s.att + 1 }.raise .timeout s.cur) ∨
    (s.att + 1 ≠ s.aBudget ∧ s.pollMissed = { s with att := s.att + 1 }) := by
  by_cases h : s.att + 1 = s.aBudget
  · exact .inl ⟨h, if_pos h⟩
  · exact .inr ⟨h, if_neg h⟩

/-- Everything the computation after a cycle can do. -/
theorem State.cycleSent_cases (k : CycleKind) (n : Nat) :
    (s.cycleSent k n = { s with seqIdx := BitVec.ofNat 3 n }.raise .unsupportedChip s.locId) ∨
    s.SequencerOnly (s.cycleSent k n) := by
  cases k with
  | ident =>
    right
    unfold State.cycleSent
    dsimp only
    split <;> constructor <;> rfl
  | reset =>
    unfold State.cycleSent
    dsimp only
    split
    · split
      · right; constructor <;> rfl
      · left; rfl
    · right; constructor <;> rfl
  | erase =>
    right
    unfold State.cycleSent
    dsimp only
    split
    · refine State.SequencerOnly.trans ?_ (State.pollBlockFrom_sequencerOnly _ _)
      constructor <;> rfl
    · constructor <;> rfl
  | program =>
    right
    unfold State.cycleSent
    dsimp only
    split <;> constructor <;> rfl

/-- Everything the computation after a read can do. -/
theorem State.readDone_cases (r : Reply) :
    (s.readDone r = { s with att := s.att + 1 }.raise .timeout s.cur) ∨ s.SequencerOnly (s.readDone r) := by
  have missed : s.pollMissed = { s with att := s.att + 1 }.raise .timeout s.cur ∨ s.SequencerOnly s.pollMissed := by
    rcases s.pollMissed_cases with ⟨-, h⟩ | ⟨-, h⟩
    · exact .inl h
    · right; rw [h]; constructor <;> rfl
  unfold State.readDone
  split
  · right; constructor <;> rfl
  · split
    · exact .inr (s.pollBlockFrom_sequencerOnly _)
    · exact missed
  · split
    · exact .inr s.byteDone_sequencerOnly
    · exact missed
  · exact .inr (s.wordRead_sequencerOnly r)
  all_goals exact .inr (State.SequencerOnly.refl s)

/-- Everything the computation after a cycle frame row can do. -/
theorem State.cycleFrameSent_cases :
    (∃ n, s.cycleFrameSent = { s with seqIdx := BitVec.ofNat 3 n }.raise .unsupportedChip s.locId) ∨
    s.SequencerOnly s.cycleFrameSent := by
  unfold State.cycleFrameSent
  split
  · rcases s.cycleSent_cases _ (s.seqIdx.toNat + 1) with h | h
    · exact .inl ⟨_, h⟩
    · exact .inr h
  all_goals exact .inr (State.SequencerOnly.refl s)

end Sys2Proof.Machine
end

