-- ==== Sys2Proof/Laws/Encoding.lean ====
section
/-! SUPPORT. Words taken apart into bytes and put together again, and the cycle word (30_encoding.md R72, R73, R76). -/

namespace Sys2Proof

@[simp] theorem word_of_its_bytes (w : Word) :
    w.extractLsb' 24 8 ++ w.extractLsb' 16 8 ++ w.extractLsb' 8 8 ++ w.extractLsb' 0 8 = w := by
  ext i hi
  simp only [BitVec.getElem_append, BitVec.getElem_extractLsb']
  grind

@[simp] theorem addr24_of_its_bytes (a : Addr24) :
    a.extractLsb' 16 8 ++ a.extractLsb' 8 8 ++ a.extractLsb' 0 8 = a := by
  ext i hi
  simp only [BitVec.getElem_append, BitVec.getElem_extractLsb']
  grind

@[simp] theorem half_of_its_bytes (h : Half) : h.extractLsb' 8 8 ++ h.extractLsb' 0 8 = h := by
  ext i hi
  simp only [BitVec.getElem_append, BitVec.getElem_extractLsb']
  grind

theorem bytes_of_word (a b c d : Byte) :
    (a ++ b ++ c ++ d : Word).extractLsb' 24 8 = a ∧ (a ++ b ++ c ++ d : Word).extractLsb' 16 8 = b ∧
    (a ++ b ++ c ++ d : Word).extractLsb' 8 8 = c ∧ (a ++ b ++ c ++ d : Word).extractLsb' 0 8 = d := by
  refine ⟨?_, ?_, ?_, ?_⟩ <;>
    (ext i hi; simp only [BitVec.getElem_extractLsb', BitVec.getLsbD_append]; grind)

theorem bytes_of_addr24 (a b c : Byte) :
    (a ++ b ++ c : Addr24).extractLsb' 16 8 = a ∧ (a ++ b ++ c : Addr24).extractLsb' 8 8 = b ∧
    (a ++ b ++ c : Addr24).extractLsb' 0 8 = c := by
  refine ⟨?_, ?_, ?_⟩ <;>
    (ext i hi; simp only [BitVec.getElem_extractLsb', BitVec.getLsbD_append]; grind)

theorem bytes_of_half (a b : Byte) :
    (a ++ b : Half).extractLsb' 8 8 = a ∧ (a ++ b : Half).extractLsb' 0 8 = b := by
  refine ⟨?_, ?_⟩ <;> (ext i hi; simp only [BitVec.getElem_extractLsb', BitVec.getLsbD_append]; grind)

/-- A cycle's word stands for that cycle (R76). -/
@[simp] theorem Cycle.ofWord_word (c : Cycle) : Cycle.ofWord c.word = c := by
  obtain ⟨a, d⟩ := c
  simp only [Cycle.ofWord, Cycle.word, Cycle.mk.injEq]
  constructor <;> (ext i hi; simp only [BitVec.getElem_extractLsb', BitVec.getLsbD_append]; grind)

/-- Every 32-bit word is the word of the cycle it stands for (R76). -/
@[simp] theorem Cycle.word_ofWord (w : Word) : (Cycle.ofWord w).word = w := by
  ext i hi
  simp only [Cycle.ofWord, Cycle.word]
  grind

@[simp] theorem layoutG_f7 (op : Byte) (p : Word) (q : Half) : (layoutG op p q).f7 = 0 := rfl

@[simp] theorem layoutA3_f7 (op : Byte) (a : Addr24) (v : Byte) (s : Half) : (layoutA3 op a v s).f7 = 0 := rfl

end Sys2Proof
end

