-- ==== Sys2Proof/Laws/PerInstr.lean ====
section
/-! SUPPORT. One lemma per constructor of Instr: the word the encoder gives it stands in its row's place and agrees with
its row's `match` and `mask` of spec/opcode_table.json, under the default preamble and reset sequence the table assumes. -/

namespace Sys2Proof.Laws

/- One theorem after another: a thread for each would not fit the memory limit of a check. -/
set_option Elab.async false

/-- Where a row's words stand: the row's format, with kind and position of a cycle row. -/
inductive TableRow.Place where
  | request
  | cycle (k : CycleKind) (pos : Nat)
  | built (l : Layout)
  | sent (u : FrameUse)
deriving DecidableEq, Repr

/-- A row of the opcode table, its `match` and `mask` widened to 64 bits. -/
structure TableRow.Row where
  place : TableRow.Place
  pattern : BitVec 64
  mask : BitVec 64

/-- The place of a code. -/
def TableRow.placeOf : Code → TableRow.Place
  | .request _ => .request
  | .cycle k pos _ => .cycle k pos
  | .built l _ => .built l
  | .sent u _ => .sent u

/-- The number of a code's word: the 32-bit word, or the frame word `W64` (30_encoding.md R71, R76). -/
def TableRow.number : Code → BitVec 64
  | .request w => w.setWidth 64
  | .cycle _ _ cw => cw.setWidth 64
  | .built _ f => f.w64
  | .sent _ f => f.w64

/-- The opcode table. The rows of `PROFILE_PLAIN` fix their reserved byte only. -/
def TableRow.row : Instr → TableRow.Row
  | .buildFrameG => ⟨.request, 0x00000001, 0xFFFFFFFF⟩
  | .buildFrameA3 => ⟨.request, 0x00000002, 0xFFFFFFFF⟩
  | .encryptByte => ⟨.request, 0x00000003, 0xFFFFFFFF⟩
  | .decryptByte => ⟨.request, 0x00000004, 0xFFFFFFFF⟩
  | .encryptBuffer => ⟨.request, 0x00000005, 0xFFFFFFFF⟩
  | .identify => ⟨.request, 0x00000006, 0xFFFFFFFF⟩
  | .eraseBlock => ⟨.request, 0x00000007, 0xFFFFFFFF⟩
  | .eraseChip => ⟨.request, 0x00000008, 0xFFFFFFFF⟩
  | .programByte => ⟨.request, 0x00000009, 0xFFFFFFFF⟩
  | .readFlash => ⟨.request, 0x0000000A, 0xFFFFFFFF⟩
  | .writeFlash => ⟨.request, 0x0000000B, 0xFFFFFFFF⟩
  | .writeFlashWhole => ⟨.request, 0x0000001B, 0xFFFFFFFF⟩
  | .shutdown => ⟨.request, 0x0000000C, 0xFFFFFFFF⟩
  | .frameG _ _ _ => ⟨.built .g, 0x0000000000000000, 0x00000000000000FF⟩
  | .frameA3 _ _ _ _ => ⟨.built .a3, 0x0000000000000000, 0x00000000000000FF⟩
  | .encRead _ => ⟨.sent .read, 0xB700000000220000, 0xFF00000000FFFFFF⟩
  | .encCycleSub01 _ _ => ⟨.sent .cycle, 0xD400000000010000, 0xFF00000000FFFFFF⟩
  | .encCycleProgram _ _ => ⟨.sent .cycle, 0xD400000000030000, 0xFF00000000FFFFFF⟩
  | .plainRead _ _ _ => ⟨.sent .read, 0x0000000000000000, 0x00000000000000FF⟩
  | .plainCycle _ _ _ _ => ⟨.sent .cycle, 0x0000000000000000, 0x00000000000000FF⟩
  | .identUnlock1 => ⟨.cycle .ident 0, 0x005555AA, 0xFFFFFFFF⟩
  | .identUnlock2 => ⟨.cycle .ident 1, 0x002AAA55, 0xFFFFFFFF⟩
  | .identIdEntry => ⟨.cycle .ident 2, 0x00555590, 0xFFFFFFFF⟩
  | .programUnlock1 => ⟨.cycle .program 0, 0x005555AA, 0xFFFFFFFF⟩
  | .programUnlock2 => ⟨.cycle .program 1, 0x002AAA55, 0xFFFFFFFF⟩
  | .programProgSetup => ⟨.cycle .program 2, 0x005555A0, 0xFFFFFFFF⟩
  | .programProgData _ _ => ⟨.cycle .program 3, 0x00000000, 0x00000000⟩
  | .eraseErasePre0 => ⟨.cycle .erase 0, 0x005555AA, 0xFFFFFFFF⟩
  | .eraseErasePre1 => ⟨.cycle .erase 1, 0x002AAA55, 0xFFFFFFFF⟩
  | .eraseErasePre2 => ⟨.cycle .erase 2, 0x00555580, 0xFFFFFFFF⟩
  | .eraseErasePre3 => ⟨.cycle .erase 3, 0x005555AA, 0xFFFFFFFF⟩
  | .eraseErasePre4 => ⟨.cycle .erase 4, 0x002AAA55, 0xFFFFFFFF⟩
  | .eraseSectorErase _ => ⟨.cycle .erase 5, 0x00000030, 0x000000FF⟩
  | .resetReset j => ⟨.cycle .reset j.toNat, 0x000000F0, 0xFFFFFFFF⟩

/-- The encoder's word of a well-formed `i` is one of its row's words, in the row's place. -/
def TableRow.Statement (i : Instr) : Prop :=
  ∀ cfg : Config, cfg.erasePreamble = defaultPreamble → cfg.resetSeq = defaultResetSeq → i.wf cfg = true →
    TableRow.placeOf (encode cfg i) = (TableRow.row i).place ∧
    TableRow.number (encode cfg i) &&& (TableRow.row i).mask = (TableRow.row i).pattern

/-- A frame agrees with a row that fixes the reserved byte only. -/
theorem TableRow.reserved_only (f : Frame) (h : f.f7 = 0) : f.w64 &&& 0x00000000000000FF = 0x0000000000000000 := by
  ext i hi
  simp only [Frame.w64, h, BitVec.getElem_and, BitVec.getElem_append]
  interval_cases i <;> simp

/-- A frame agrees with a row of `PROFILE_ENC`: opcode, sub-parameter and reserved byte fixed. -/
theorem TableRow.enc_row (f : Frame) :
    f.w64 &&& 0xFF00000000FFFFFF = Frame.w64 ⟨f.f0, 0, 0, 0, 0, f.f5, f.f6, f.f7⟩ := by
  apply BitVec.eq_of_getLsbD_eq
  intro i hi
  simp only [Frame.w64, BitVec.getLsbD_and, BitVec.getLsbD_append]
  interval_cases i <;> simp

theorem TableRow.buildFrameG : TableRow.Statement .buildFrameG :=
  fun _ _ _ _ => ⟨rfl, by simp [TableRow.number, TableRow.row, encode]⟩

theorem TableRow.buildFrameA3 : TableRow.Statement .buildFrameA3 :=
  fun _ _ _ _ => ⟨rfl, by simp [TableRow.number, TableRow.row, encode]⟩

theorem TableRow.encryptByte : TableRow.Statement .encryptByte :=
  fun _ _ _ _ => ⟨rfl, by simp [TableRow.number, TableRow.row, encode]⟩

theorem TableRow.decryptByte : TableRow.Statement .decryptByte :=
  fun _ _ _ _ => ⟨rfl, by simp [TableRow.number, TableRow.row, encode]⟩

theorem TableRow.encryptBuffer : TableRow.Statement .encryptBuffer :=
  fun _ _ _ _ => ⟨rfl, by simp [TableRow.number, TableRow.row, encode]⟩

theorem TableRow.identify : TableRow.Statement .identify :=
  fun _ _ _ _ => ⟨rfl, by simp [TableRow.number, TableRow.row, encode]⟩

theorem TableRow.eraseBlock : TableRow.Statement .eraseBlock :=
  fun _ _ _ _ => ⟨rfl, by simp [TableRow.number, TableRow.row, encode]⟩

theorem TableRow.eraseChip : TableRow.Statement .eraseChip :=
  fun _ _ _ _ => ⟨rfl, by simp [TableRow.number, TableRow.row, encode]⟩

theorem TableRow.programByte : TableRow.Statement .programByte :=
  fun _ _ _ _ => ⟨rfl, by simp [TableRow.number, TableRow.row, encode]⟩

theorem TableRow.readFlash : TableRow.Statement .readFlash :=
  fun _ _ _ _ => ⟨rfl, by simp [TableRow.number, TableRow.row, encode]⟩

theorem TableRow.writeFlash : TableRow.Statement .writeFlash :=
  fun _ _ _ _ => ⟨rfl, by simp [TableRow.number, TableRow.row, encode]⟩

theorem TableRow.writeFlashWhole : TableRow.Statement .writeFlashWhole :=
  fun _ _ _ _ => ⟨rfl, by simp [TableRow.number, TableRow.row, encode]⟩

theorem TableRow.shutdown : TableRow.Statement .shutdown :=
  fun _ _ _ _ => ⟨rfl, by simp [TableRow.number, TableRow.row, encode]⟩

theorem TableRow.frameG (op : Byte) (p32 : Word) (p16 : Half) : TableRow.Statement (.frameG op p32 p16) := fun _ _ _ _ =>
  ⟨rfl, by
    simp only [TableRow.number, TableRow.row, encode]
    rw [TableRow.reserved_only _ rfl]⟩

theorem TableRow.frameA3 (op : Byte) (a : Addr24) (v : Byte) (s : Half) : TableRow.Statement (.frameA3 op a v s) := fun _ _ _ _ =>
  ⟨rfl, by
    simp only [TableRow.number, TableRow.row, encode]
    rw [TableRow.reserved_only _ rfl]⟩

theorem TableRow.encRead (a : Word) : TableRow.Statement (.encRead a) := fun _ _ _ _ =>
  ⟨rfl, by
    simp only [TableRow.number, TableRow.row, encode]
    rw [TableRow.enc_row]
    simp only [layoutG]
    rfl⟩

theorem TableRow.encCycleSub01 (a : Addr24) (d : Byte) : TableRow.Statement (.encCycleSub01 a d) := fun _ _ _ _ =>
  ⟨rfl, by
    simp only [TableRow.number, TableRow.row, encode]
    rw [TableRow.enc_row]
    simp only [layoutA3]
    rfl⟩

theorem TableRow.encCycleProgram (a : Addr24) (d : Byte) : TableRow.Statement (.encCycleProgram a d) := fun _ _ _ _ =>
  ⟨rfl, by
    simp only [TableRow.number, TableRow.row, encode]
    rw [TableRow.enc_row]
    simp only [layoutA3]
    rfl⟩

theorem TableRow.plainRead (o : Byte) (a : Word) (s : Half) : TableRow.Statement (.plainRead o a s) := fun _ _ _ _ =>
  ⟨rfl, by
    simp only [TableRow.number, TableRow.row, encode]
    rw [TableRow.reserved_only _ rfl]⟩

theorem TableRow.plainCycle (o : Byte) (a : Addr24) (d : Byte) (s : Half) : TableRow.Statement (.plainCycle o a d s) := fun _ _ _ _ =>
  ⟨rfl, by
    simp only [TableRow.number, TableRow.row, encode]
    rw [TableRow.reserved_only _ rfl]⟩

theorem TableRow.identUnlock1 : TableRow.Statement .identUnlock1 :=
  fun _ _ _ _ => ⟨rfl, by simp [TableRow.number, TableRow.row, encode, Cycle.word, unlock1]⟩

theorem TableRow.identUnlock2 : TableRow.Statement .identUnlock2 :=
  fun _ _ _ _ => ⟨rfl, by simp [TableRow.number, TableRow.row, encode, Cycle.word, unlock2]⟩

theorem TableRow.identIdEntry : TableRow.Statement .identIdEntry :=
  fun _ _ _ _ => ⟨rfl, by simp [TableRow.number, TableRow.row, encode, Cycle.word, idEntry]⟩

theorem TableRow.programUnlock1 : TableRow.Statement .programUnlock1 :=
  fun _ _ _ _ => ⟨rfl, by simp [TableRow.number, TableRow.row, encode, Cycle.word, unlock1]⟩

theorem TableRow.programUnlock2 : TableRow.Statement .programUnlock2 :=
  fun _ _ _ _ => ⟨rfl, by simp [TableRow.number, TableRow.row, encode, Cycle.word, unlock2]⟩

theorem TableRow.programProgSetup : TableRow.Statement .programProgSetup :=
  fun _ _ _ _ => ⟨rfl, by simp [TableRow.number, TableRow.row, encode, Cycle.word, progSetup]⟩

theorem TableRow.programProgData (pa : Addr24) (pd : Byte) : TableRow.Statement (.programProgData pa pd) := fun _ _ _ _ =>
  ⟨rfl, by simp [TableRow.number, TableRow.row, encode]⟩

theorem TableRow.eraseErasePre0 : TableRow.Statement .eraseErasePre0 :=
  fun _ hp _ _ => ⟨rfl, by simp [TableRow.number, TableRow.row, encode, hp, defaultPreamble, Cycle.word]⟩

theorem TableRow.eraseErasePre1 : TableRow.Statement .eraseErasePre1 :=
  fun _ hp _ _ => ⟨rfl, by simp [TableRow.number, TableRow.row, encode, hp, defaultPreamble, Cycle.word]⟩

theorem TableRow.eraseErasePre2 : TableRow.Statement .eraseErasePre2 :=
  fun _ hp _ _ => ⟨rfl, by simp [TableRow.number, TableRow.row, encode, hp, defaultPreamble, Cycle.word]⟩

theorem TableRow.eraseErasePre3 : TableRow.Statement .eraseErasePre3 :=
  fun _ hp _ _ => ⟨rfl, by simp [TableRow.number, TableRow.row, encode, hp, defaultPreamble, Cycle.word]⟩

theorem TableRow.eraseErasePre4 : TableRow.Statement .eraseErasePre4 :=
  fun _ hp _ _ => ⟨rfl, by simp [TableRow.number, TableRow.row, encode, hp, defaultPreamble, Cycle.word]⟩

theorem TableRow.eraseSectorErase (sa : Addr24) : TableRow.Statement (.eraseSectorErase sa) := fun _ _ _ _ =>
  ⟨rfl, by
    ext i hi
    simp only [TableRow.number, TableRow.row, encode, Cycle.word, eraseTerminator, BitVec.getElem_and,
      BitVec.getElem_setWidth, BitVec.getLsbD_append]
    interval_cases i <;> simp⟩

theorem TableRow.resetReset (j : BitVec 3) : TableRow.Statement (.resetReset j) := by
  intro cfg _ hr hw
  have h0 : j = 0 := by
    simp only [Instr.wf, hr, defaultResetSeq, List.length_singleton, decide_eq_true_eq] at hw
    bv_omega
  subst h0
  refine ⟨rfl, ?_⟩
  simp [TableRow.number, TableRow.row, encode, hr, defaultResetSeq, Cycle.word]

end Sys2Proof.Laws
end

