-- ==== Sys2Proof/Laws/Send.lean ====
section
/-! SUPPORT. What any row that makes a `Send` can do, said once for the 19 of them. -/

namespace Sys2Proof.Machine

/-- The outcomes of a `Send` row: the transport answered `ans`, and `u` holds the traffic; the `Send` failed, or the computation behind it raised
the error of its rule, or it moved the sequencer only. -/
inductive SendOutcome (ans : Answer) (a : Word) (u : State) : State → Prop where
  | failed : ans = .fail → SendOutcome ans a u (u.raise .transportError a)
  | timeout (r : Reply) (att : Word) :
      ans = .ok r → SendOutcome ans a u ({ u with att := att }.raise .timeout u.cur)
  | unsupported (r : Reply) (n : BitVec 3) :
      ans = .ok r → SendOutcome ans a u ({ u with seqIdx := n }.raise .unsupportedChip u.locId)
  | went (r : Reply) (t : State) : ans = .ok r → u.SequencerOnly t → SendOutcome ans a u t

variable (s : State)

theorem State.cycleStep_outcome (k : CycleKind) (pos : Nat) (c : Cycle) :
    SendOutcome s.nextAnswer (c.addr.setWidth 32) (s.send (cycleFrame s.cfg k c) 0 s.cfg.tCycle) (s.cycleStep k pos c) := by
  unfold State.cycleStep
  rcases s.sendCycle_cases (cycleFrame s.cfg k c) c.addr (State.cycleSent k (pos + 1)) with ⟨h, e⟩ | ⟨r, h, e⟩ <;> rw [e]
  · exact .failed h
  · rcases State.cycleSent_cases (s.send (cycleFrame s.cfg k c) 0 s.cfg.tCycle) k (pos + 1) with h' | h'
    · rw [h']; exact .unsupported r _ h
    · exact .went r _ h h'

theorem State.frameStep_outcome (f : Frame) (a : Addr24) :
    SendOutcome s.nextAnswer (a.setWidth 32) (s.send f 0 s.cfg.tCycle) (s.sendCycle f a State.cycleFrameSent) := by
  rcases s.sendCycle_cases f a State.cycleFrameSent with ⟨h, e⟩ | ⟨r, h, e⟩ <;> rw [e]
  · exact .failed h
  · rcases State.cycleFrameSent_cases (s.send f 0 s.cfg.tCycle) with ⟨n, h'⟩ | h'
    · rw [h']; exact .unsupported r _ h
    · exact .went r _ h h'

theorem State.readStep_outcome (f : Frame) (a : Word) :
    SendOutcome s.nextAnswer a (s.send f 4 s.cfg.tRead) (s.sendRead f a State.readDone) := by
  rcases s.sendRead_cases f a State.readDone with ⟨h, e⟩ | ⟨r, h, e⟩ <;> rw [e]
  · exact .failed h
  · rcases State.readDone_cases (s.send f 4 s.cfg.tRead) r with h' | h'
    · rw [h']; exact .timeout r _ h
    · exact .went r _ h h'

/-- Everything a row that makes a `Send` can do. -/
theorem exec_send_outcome {i : Instr} {a : Word} (h : failureAddress s.cfg i = some a) :
    ∃ (la : Word) (lv : Byte) (x : Exchange) (t : State), exchangeOf s.cfg i = some x ∧ exec i s = .next t ∧
      SendOutcome s.nextAnswer a ({ s with locAddr := la, locVal := lv }.send x.frame x.respLen x.timing) t := by
  have place : { s with locAddr := s.locAddr, locVal := s.locVal } = s := rfl
  cases i <;> simp only [failureAddress, reduceCtorEq, Option.some.injEq] at h
  case encRead b =>
    subst h
    refine ⟨s.locAddr, s.locVal, ⟨layoutG 0xB7 b 0x2200, 4, s.cfg.tRead⟩, _, rfl, rfl, ?_⟩
    rw [place]; exact s.readStep_outcome _ _
  case plainRead o b sub =>
    subst h
    refine ⟨s.locAddr, s.locVal, ⟨layoutG o b sub, 4, s.cfg.tRead⟩, _, rfl, rfl, ?_⟩
    rw [place]; exact s.readStep_outcome _ _
  case encCycleSub01 b d =>
    subst h
    refine ⟨s.locAddr, s.locVal, ⟨layoutA3 0xD4 b d 0x0100, 0, s.cfg.tCycle⟩, _, rfl, rfl, ?_⟩
    rw [place]; exact s.frameStep_outcome _ _
  case encCycleProgram b d =>
    subst h
    refine ⟨s.locAddr, s.locVal, ⟨layoutA3 0xD4 b d 0x0300, 0, s.cfg.tCycle⟩, _, rfl, rfl, ?_⟩
    rw [place]; exact s.frameStep_outcome _ _
  case plainCycle o b d sub =>
    subst h
    refine ⟨s.locAddr, s.locVal, ⟨layoutA3 o b d sub, 0, s.cfg.tCycle⟩, _, rfl, rfl, ?_⟩
    rw [place]; exact s.frameStep_outcome _ _
  case programProgData pa pd =>
    subst h
    refine ⟨pa.setWidth 32, pd, ⟨cycleFrame s.cfg .program ⟨pa, pd⟩, 0, s.cfg.tCycle⟩, _, ?_, rfl, ?_⟩
    · simp [exchangeOf, encode]
    · exact State.cycleStep_outcome { s with locAddr := pa.setWidth 32, locVal := pd } _ _ ⟨pa, pd⟩
  case eraseSectorErase sa =>
    subst h
    refine ⟨sa.setWidth 32, s.locVal, ⟨cycleFrame s.cfg .erase ⟨sa, eraseTerminator⟩, 0, s.cfg.tCycle⟩, _, ?_, rfl, ?_⟩
    · simp [exchangeOf, encode]
    · exact State.cycleStep_outcome { s with locAddr := sa.setWidth 32 } _ _ ⟨sa, eraseTerminator⟩
  case resetReset j =>
    cases hj : s.cfg.resetSeq[j.toNat]? with
    | none => simp [hj] at h
    | some c =>
      simp only [hj, Option.map_some, Option.some.injEq] at h
      subst h
      refine ⟨s.locAddr, s.locVal, ⟨cycleFrame s.cfg .reset c, 0, s.cfg.tCycle⟩, s.cycleStep .reset j.toNat c, ?_, ?_, ?_⟩
      · simp [exchangeOf, encode, hj]
      · simp [exec, execResetReset, hj]
      · rw [place]; exact s.cycleStep_outcome _ _ _
  case identUnlock1 =>
    subst h
    refine ⟨s.locAddr, s.locVal, ⟨cycleFrame s.cfg .ident unlock1, 0, s.cfg.tCycle⟩, _, by simp [exchangeOf, encode], rfl, ?_⟩
    rw [place]; exact s.cycleStep_outcome .ident 0 unlock1
  case identUnlock2 =>
    subst h
    refine ⟨s.locAddr, s.locVal, ⟨cycleFrame s.cfg .ident unlock2, 0, s.cfg.tCycle⟩, _, by simp [exchangeOf, encode], rfl, ?_⟩
    rw [place]; exact s.cycleStep_outcome .ident 1 unlock2
  case identIdEntry =>
    subst h
    refine ⟨s.locAddr, s.locVal, ⟨cycleFrame s.cfg .ident idEntry, 0, s.cfg.tCycle⟩, _, by simp [exchangeOf, encode], rfl, ?_⟩
    rw [place]; exact s.cycleStep_outcome .ident 2 idEntry
  case programUnlock1 =>
    subst h
    refine ⟨s.locAddr, s.locVal, ⟨cycleFrame s.cfg .program unlock1, 0, s.cfg.tCycle⟩, _, by simp [exchangeOf, encode], rfl, ?_⟩
    rw [place]; exact s.cycleStep_outcome .program 0 unlock1
  case programUnlock2 =>
    subst h
    refine ⟨s.locAddr, s.locVal, ⟨cycleFrame s.cfg .program unlock2, 0, s.cfg.tCycle⟩, _, by simp [exchangeOf, encode], rfl, ?_⟩
    rw [place]; exact s.cycleStep_outcome .program 1 unlock2
  case programProgSetup =>
    subst h
    refine ⟨s.locAddr, s.locVal, ⟨cycleFrame s.cfg .program progSetup, 0, s.cfg.tCycle⟩, _, by simp [exchangeOf, encode], rfl, ?_⟩
    rw [place]; exact s.cycleStep_outcome .program 2 progSetup
  case eraseErasePre0 =>
    subst h
    refine ⟨s.locAddr, s.locVal, ⟨cycleFrame s.cfg .erase s.cfg.erasePreamble.c0, 0, s.cfg.tCycle⟩, _, by simp [exchangeOf, encode], rfl, ?_⟩
    rw [place]; exact s.cycleStep_outcome .erase 0 s.cfg.erasePreamble.c0
  case eraseErasePre1 =>
    subst h
    refine ⟨s.locAddr, s.locVal, ⟨cycleFrame s.cfg .erase s.cfg.erasePreamble.c1, 0, s.cfg.tCycle⟩, _, by simp [exchangeOf, encode], rfl, ?_⟩
    rw [place]; exact s.cycleStep_outcome .erase 1 s.cfg.erasePreamble.c1
  case eraseErasePre2 =>
    subst h
    refine ⟨s.locAddr, s.locVal, ⟨cycleFrame s.cfg .erase s.cfg.erasePreamble.c2, 0, s.cfg.tCycle⟩, _, by simp [exchangeOf, encode], rfl, ?_⟩
    rw [place]; exact s.cycleStep_outcome .erase 2 s.cfg.erasePreamble.c2
  case eraseErasePre3 =>
    subst h
    refine ⟨s.locAddr, s.locVal, ⟨cycleFrame s.cfg .erase s.cfg.erasePreamble.c3, 0, s.cfg.tCycle⟩, _, by simp [exchangeOf, encode], rfl, ?_⟩
    rw [place]; exact s.cycleStep_outcome .erase 3 s.cfg.erasePreamble.c3
  case eraseErasePre4 =>
    subst h
    refine ⟨s.locAddr, s.locVal, ⟨cycleFrame s.cfg .erase s.cfg.erasePreamble.c4, 0, s.cfg.tCycle⟩, _, by simp [exchangeOf, encode], rfl, ?_⟩
    rw [place]; exact s.cycleStep_outcome .erase 4 s.cfg.erasePreamble.c4

end Sys2Proof.Machine
end

