-- ==== Sys2Proof/Laws/Step.lean ====
section
/-! SUPPORT. How `step` unfolds, said once: the configuration check, the host's action, and the FCB's own step. -/

namespace Sys2Proof.Machine

variable {s : State}

theorem step_of_wf (h : s.cfg.WF) : step s = machineStep s := if_pos h

theorem step_of_not_wf (h : ¬ s.cfg.WF) : step s = .refused .illFormedConfig := if_neg h

theorem machineStep_of_no_host (h : s.host = []) : machineStep s = fcbStep s := by
  simp [machineStep, h]

theorem fcbStep_of_nextInstr {i : Instr} (h : s.nextInstr = some i) : fcbStep s = exec i s := by
  simp [fcbStep, h]

theorem nextInstr_of_held {w : Word} (hb : s.busy = false) (hw : s.held = some w) :
    s.nextInstr = (decodeRequest w).toOption := by
  simp [State.nextInstr, hb, hw]

theorem nextInstr_of_read (hb : s.busy = true) (ht : s.todo = .read) : s.nextInstr = some (readInstr s.cfg s.cur) := by
  simp [State.nextInstr, hb, ht]

theorem nextInstr_of_cycle {k : CycleKind} (hb : s.busy = true) (ht : s.todo = .cycle k) :
    s.nextInstr = s.cycleAtSeqIdx k := by
  simp [State.nextInstr, hb, ht]

theorem fcbStep_of_complete (hb : s.busy = true) (ht : s.todo = .complete) : fcbStep s = .next s.completion := by
  simp [fcbStep, State.nextInstr, hb, ht]

/-- An accepted request with an illegal word (60_exceptions.md R176). -/
theorem fcbStep_of_illegal {w : Word} {d : DecodeError} (hb : s.busy = false) (hw : s.held = some w)
    (hd : decodeRequest w = .error d) : fcbStep s = .next (s.illegalRequest w) := by
  simp [fcbStep, State.nextInstr, hb, hw, hd, Except.toOption]

theorem fcbStep_of_idle (hb : s.busy = false) (hw : s.held = none) : fcbStep s = .next s := by
  simp [fcbStep, State.nextInstr, hb, hw]

/-- Everything a step of the FCB can do. -/
theorem fcbStep_cases :
    (∃ i, s.nextInstr = some i ∧ fcbStep s = exec i s) ∨
    (s.busy = true ∧ s.todo = .complete ∧ fcbStep s = .next s.completion) ∨
    (s.busy = true ∧ s.nextInstr = none ∧ s.todo ≠ .complete ∧ fcbStep s = .fault .noSuchStep) ∨
    (∃ w d, s.busy = false ∧ s.held = some w ∧ decodeRequest w = .error d ∧
      fcbStep s = .next (s.illegalRequest w)) ∨
    (s.busy = false ∧ s.held = none ∧ fcbStep s = .next s) := by
  cases hi : s.nextInstr with
  | some i => exact .inl ⟨i, rfl, fcbStep_of_nextInstr hi⟩
  | none =>
    right
    cases hb : s.busy with
    | true =>
      cases ht : s.todo with
      | complete => exact .inl ⟨rfl, rfl, fcbStep_of_complete hb ht⟩
      | _ => exact .inr (.inl ⟨rfl, rfl, by simp, by simp [fcbStep, hi, hb, ht]⟩)
    | false =>
      right; right
      cases hw : s.held with
      | none => exact .inr ⟨rfl, rfl, fcbStep_of_idle hb hw⟩
      | some w =>
        cases hd : decodeRequest w with
        | error d => exact .inl ⟨w, d, rfl, rfl, hd, fcbStep_of_illegal hb hw hd⟩
        | ok i => rw [nextInstr_of_held hb hw, hd] at hi; simp [Except.toOption] at hi

theorem hostAccess_of_none (h : s.held = none) (rest : List HostAction) (access : State → State) :
    s.hostAccess rest access = .next (access { s with host := rest }) := if_pos h

theorem hostAccess_of_held (h : s.held ≠ none) (rest : List HostAction) (access : State → State) :
    s.hostAccess rest access = fcbStep s := if_neg h

/-- While a `REQ` write is held, a step of the machine is one of the FCB, the host's `run` apart, or the reset input. -/
theorem machineStep_of_held (h : s.held ≠ none) (hrun : ∀ rest, s.host ≠ .run :: rest)
    (hreset : ∀ rest, s.host ≠ .reset :: rest) : machineStep s = fcbStep s := by
  cases hh : s.host with
  | nil => exact machineStep_of_no_host hh
  | cons a rest =>
    cases a with
    | run => exact absurd hh (hrun rest)
    | reset => exact absurd hh (hreset rest)
    | read r => simp [machineStep, hh, hostAccess_of_held h]
    | request w data => simp [machineStep, hh, hostAccess_of_held h]
    | write r v => cases r <;> simp [machineStep, hh, hostAccess_of_held h]

/-- Everything a step of the machine can do: a step of the FCB, possibly after the host's `run`, or a host access that
leaves the FCB's operation alone while no request is held, or the reset input. -/
theorem machineStep_cases :
    (machineStep s = fcbStep s) ∨
    (∃ rest, s.host = .run :: rest ∧ machineStep s = fcbStep { s with host := rest }) ∨
    (∃ v data rest, s.held = none ∧ machineStep s = .next ({ s with host := rest }.issue v data)) ∨
    (∃ r v rest, s.held = none ∧ s.host = .write r v :: rest ∧ r ≠ .req ∧
      machineStep s = .next ({ s with host := rest }.writeReg r v)) ∨
    (∃ r rest, s.held = none ∧ s.host = .read r :: rest ∧
      machineStep s = .next { s with host := rest, readData := s.readReg r }) ∨
    (∃ rest, s.host = .reset :: rest ∧ machineStep s = .next { s with host := rest }.resetInput) := by
  cases hh : s.host with
  | nil => exact .inl (machineStep_of_no_host hh)
  | cons a rest =>
    by_cases hn : s.held = none
    · cases a with
      | run => exact .inr (.inl ⟨rest, rfl, by simp [machineStep, hh]⟩)
      | reset => exact .inr (.inr (.inr (.inr (.inr ⟨rest, rfl, by simp [machineStep, hh]⟩))))
      | read r =>
        exact .inr (.inr (.inr (.inr (.inl ⟨r, rest, hn, rfl, by simp [machineStep, hh, hostAccess_of_none hn]; rfl⟩))))
      | request w data =>
        exact .inr (.inr (.inl ⟨w, data, rest, hn, by simp [machineStep, hh, hostAccess_of_none hn]⟩))
      | write r v =>
        by_cases hr : r = .req
        · subst hr
          exact .inr (.inr (.inl ⟨v, [], rest, hn, by simp [machineStep, hh, hostAccess_of_none hn]⟩))
        · refine .inr (.inr (.inr (.inl ⟨r, v, rest, hn, rfl, hr, ?_⟩)))
          cases r <;> first | exact absurd rfl hr | simp [machineStep, hh, hostAccess_of_none hn]
    · cases a with
      | run => exact .inr (.inl ⟨rest, rfl, by simp [machineStep, hh]⟩)
      | reset => exact .inr (.inr (.inr (.inr (.inr ⟨rest, rfl, by simp [machineStep, hh]⟩))))
      | _ => exact .inl (machineStep_of_held hn (by simp [hh]) (by simp [hh]))

end Sys2Proof.Machine
end

