-- ==== Sys2Proof/Tests/Slice0.lean ====
section
/-! SUPPORT. Tests: ill-formed terms refused, words written out from the spec's encodings decoded, one step of each
instruction against the spec's worked values (95_test_vectors.md unless another file is named), and for each statement of
Obligations.lean that has hypotheses a state and operands that meet them together. -/

namespace Sys2Proof.Tests

open Sys2Proof.Machine

/- One theorem after another: a thread for each would not fit the memory limit of a check. -/
set_option Elab.async false

/-! ### Small states -/

/-- After a successful IDENTIFY of the sample encrypting instance. -/
def ready : State := { State.reset with dialect := .typeA, chipId := 0x0000B5BF }

/-- The same for the sample plain instance. -/
def readyPlain : State := { State.resetWith Config.samplePlain with dialect := .typeA, chipId := 0x12341F13 }

/-- `s` with operands in the operand registers. -/
def withArgs (a0 a1 a2 a3 : Word) (data : List Byte) (s : State) : State :=
  { s with arg0 := a0, arg1 := a1, arg2 := a2, arg3 := a3, dataIn := data }

/-- `s` with a request word held. -/
def withHeld (w : Word) (s : State) : State := { s with held := some w }

/-- `s` with an answer the transport gives next. -/
def answered (a : Answer) (s : State) : State := { s with answers := [a] }

/-- The answer to a cycle: no byte of it is taken. -/
def none4 : Answer := .ok ⟨0, 0, 0, 0⟩

/-- The outcome is a next state with the property. -/
def nextHas (o : Host.Outcome State Fault Refusal) (p : State → Bool) : Bool :=
  match o with
  | .next t => p t
  | .fault _ => false
  | .refused _ => false

/-- The frames sent, byte by byte. -/
def frames (s : State) : List (List Byte) := s.sent.map fun x => x.frame.bytes

/-- ERASE_BLOCK in progress on the block of length `l` at `a`, at its sector erase cycle. -/
def atSectorErase (a l budget : Word) : State :=
  { ready with
    busy := true, op := 0x7, aAddr := a, aLen := l, aBudget := budget, fsm := .erasing, todo := .cycle .erase, seqIdx := 5
    locAddr := a, locLen := l }

/-- The same while it polls the word at `c`. -/
def atErasePoll (a l budget c : Word) : State :=
  { atSectorErase a l budget with fsm := .erasePoll, todo := .read, seqIdx := 6, cur := c }

/-- PROGRAM_BYTE in progress at its poll. -/
def atProgramPoll (a : Word) (v : Byte) (budget : Word) : State :=
  { ready with
    busy := true, op := 0x9, aAddr := a, aLen := v.setWidth 32, aBudget := budget, fsm := .programPoll, todo := .read
    seqIdx := 4, locAddr := a, locVal := v, cur := a }

/-- READ_FLASH in progress. -/
def atRead (a l done : Word) (out : List Byte) : State :=
  { ready with
    busy := true, op := 0xA, aAddr := a, aLen := l, fsm := .reading, todo := .read, byteIdx := done, cur := a + done
    out := out }

/-- IDENTIFY in progress behind its ID read, at reset cycle 0. -/
def atReset (id : Word) : State :=
  { State.reset with busy := true, op := 0x6, fsm := .ident, todo := .cycle .reset, locId := id }

/-- WRITE_FLASH in progress at the poll of the last word of block `blk`. -/
def atLastWord (whole : Bool) (a : Word) (data : List Byte) (blk la : Word) : State :=
  { atErasePoll la 0x10 1 (la + 12) with
    op := 0xB, outer := .writeFlash, aWhole := whole, aAddr := a, aLen := BitVec.ofNat 32 data.length, aData := data
    blkIdx := blk, doneBytes := if whole then la else 0 }

/-- A reply that reads as erased in the encrypting family (43_flash_programming.md R141). -/
def erasedReply : Reply := ⟨0xD5, 0xD5, 0xD5, 0xD5⟩

/-! ### WellFormed: what each check refuses (10_state.md R21) -/

theorem test_wf_samples : Config.sampleEnc.WF ∧ Config.samplePlain.WF := by decide

theorem test_wf_capacity_low : ¬ { Config.sampleEnc with capacity := 0 }.WF := by decide
theorem test_wf_capacity_high : ¬ { Config.sampleEnc with capacity := 2 ^ 24 + 16 }.WF := by decide
theorem test_wf_capacity_aligned :
    ¬ { Config.sampleEnc with capacity := 0x102, eraseBlockSize := 2, eraseChipPlan := [2] }.WF := by decide
theorem test_wf_block_power : ¬ { Config.sampleEnc with capacity := 0x60, eraseBlockSize := 0x60 }.WF := by decide
theorem test_wf_block_low : ¬ { Config.sampleEnc with eraseBlockSize := 2 }.WF := by decide
theorem test_wf_block_high : ¬ { Config.sampleEnc with eraseBlockSize := 0x200 }.WF := by decide
theorem test_wf_block_divides : ¬ { Config.sampleEnc with capacity := 0x108 }.WF := by decide
theorem test_wf_plan_empty : ¬ { Config.sampleEnc with eraseChipPlan := [] }.WF := by decide
theorem test_wf_plan_zero : ¬ { Config.sampleEnc with eraseChipPlan := [0x10, 0] }.WF := by decide
theorem test_wf_plan_sum : ¬ { Config.sampleEnc with eraseChipPlan := [0x100, 1] }.WF := by decide
theorem test_wf_reset_empty : ¬ { Config.sampleEnc with resetSeq := [] }.WF := by decide
theorem test_wf_reset_long : ¬ { Config.sampleEnc with resetSeq := List.replicate 7 ⟨0, 0xF0⟩ }.WF := by decide
theorem test_wf_profile_enc : ¬ { Config.sampleEnc with encrypting := false }.WF := by decide
theorem test_wf_profile_plain : ¬ { Config.samplePlain with encrypting := true }.WF := by decide
theorem test_wf_step_refuses :
    (match step { State.reset with cfg := { Config.sampleEnc with eraseChipPlan := [] } } with
      | .refused .illFormedConfig => true
      | _ => false) = true := by decide

theorem test_wf_enc_read : (Instr.encRead 0).wf Config.samplePlain = false := by decide
theorem test_wf_enc_sub01 : (Instr.encCycleSub01 0 0).wf Config.samplePlain = false := by decide
theorem test_wf_enc_program : (Instr.encCycleProgram 0 0).wf Config.samplePlain = false := by decide
theorem test_wf_plain_read :
    (Instr.plainRead 0xC1 0 0).wf Config.sampleEnc = false ∧ (Instr.plainRead 0xC0 0 0).wf Config.samplePlain = false ∧
    (Instr.plainRead 0xC1 0 1).wf Config.samplePlain = false := by decide
theorem test_wf_plain_cycle :
    (Instr.plainCycle 0xC0 0 0 0).wf Config.sampleEnc = false ∧
    (Instr.plainCycle 0xC1 0 0 0).wf Config.samplePlain = false ∧
    (Instr.plainCycle 0xC0 0 0 1).wf Config.samplePlain = false := by decide
theorem test_wf_prog_data : (Instr.programProgData 0x100 0).wf Config.sampleEnc = false := by decide
theorem test_wf_sector_erase : (Instr.eraseSectorErase 0x100).wf Config.sampleEnc = false := by decide
theorem test_wf_reset_reset : (Instr.resetReset 1).wf Config.sampleEnc = false := by decide

/-! ### Decoding: words written out from 30_encoding.md R72 to R90 -/

theorem test_decode_build_frame_g : decodeRequest 0b00000000000000000000000000000001 = .ok .buildFrameG := by decide
theorem test_decode_build_frame_a3 : decodeRequest 0b00000000000000000000000000000010 = .ok .buildFrameA3 := by decide
theorem test_decode_encrypt_byte : decodeRequest 0b00000000000000000000000000000011 = .ok .encryptByte := by decide
theorem test_decode_decrypt_byte : decodeRequest 0b00000000000000000000000000000100 = .ok .decryptByte := by decide
theorem test_decode_encrypt_buffer : decodeRequest 0b00000000000000000000000000000101 = .ok .encryptBuffer := by decide
theorem test_decode_identify : decodeRequest 0b00000000000000000000000000000110 = .ok .identify := by decide
theorem test_decode_erase_block : decodeRequest 0b00000000000000000000000000000111 = .ok .eraseBlock := by decide
theorem test_decode_erase_chip : decodeRequest 0b00000000000000000000000000001000 = .ok .eraseChip := by decide
theorem test_decode_program_byte : decodeRequest 0b00000000000000000000000000001001 = .ok .programByte := by decide
theorem test_decode_read_flash : decodeRequest 0b00000000000000000000000000001010 = .ok .readFlash := by decide
theorem test_decode_write_flash : decodeRequest 0b00000000000000000000000000001011 = .ok .writeFlash := by decide
theorem test_decode_write_whole : decodeRequest 0b00000000000000000000000000011011 = .ok .writeFlashWhole := by decide
theorem test_decode_shutdown : decodeRequest 0b00000000000000000000000000001100 = .ok .shutdown := by decide

/-- 95 section 4.5: the illegal request words. -/
theorem test_decode_illegal_requests :
    decodeRequest 0x00000017 = .error .wholeOutsideWriteFlash ∧ decodeRequest 0x0000002B = .error .reservedBits ∧
    decodeRequest 0x0000000D = .error .reservedOpsel ∧ decodeRequest 0 = .error .reservedOpsel ∧
    decodeRequest 0x80000001 = .error .reservedBits := by decide

theorem test_decode_frame_g :
    decode Config.sampleEnc (.built .g ⟨0x01, 0x80, 0x00, 0x00, 0x01, 0x80, 0x01, 0x00⟩) =
      .ok (.frameG 0x01 0x80000001 0x8001) := by decide
theorem test_decode_frame_a3 :
    decode Config.sampleEnc (.built .a3 ⟨0xD4, 0x00, 0x00, 0x12, 0x7A, 0x03, 0x00, 0x00⟩) =
      .ok (.frameA3 0xD4 0x000012 0x7A 0x0300) := by decide
theorem test_decode_enc_read :
    decodeBytes Config.sampleEnc .read [0xB7, 0x00, 0xFF, 0xFF, 0xFC, 0x22, 0x00, 0x00] = .ok (.encRead 0x00FFFFFC) := by
  decide
theorem test_decode_enc_sub01 :
    decodeBytes Config.sampleEnc .cycle [0xD4, 0x00, 0x55, 0x55, 0x90, 0x01, 0x00, 0x00] =
      .ok (.encCycleSub01 0x005555 0x90) := by decide
theorem test_decode_enc_program :
    decodeBytes Config.sampleEnc .cycle [0xD4, 0x00, 0x00, 0xFF, 0x00, 0x03, 0x00, 0x00] =
      .ok (.encCycleProgram 0x0000FF 0x00) := by decide
theorem test_decode_plain_read :
    decodeBytes Config.samplePlain .read [0xC1, 0x00, 0x00, 0x00, 0x24, 0x00, 0x00, 0x00] =
      .ok (.plainRead 0xC1 0x00000024 0x0000) := by decide
theorem test_decode_plain_cycle :
    decodeBytes Config.samplePlain .cycle [0xC0, 0x00, 0x2A, 0xAA, 0x55, 0x00, 0x00, 0x00] =
      .ok (.plainCycle 0xC0 0x002AAA 0x55 0x0000) := by decide
theorem test_decode_bad_frames :
    decodeBytes Config.sampleEnc .read [0xB7, 0, 0, 0, 0, 0x22, 0, 1] = .error .reservedByte ∧
    decodeBytes Config.sampleEnc .read [0xB7, 0, 0, 0, 0, 0x22, 0] = .error .wrongLength ∧
    decodeBytes Config.sampleEnc .cycle [0xD4, 0, 0, 0, 0, 0x02, 0, 0] = .error .notOfProfile := by decide

theorem test_decode_ident :
    decode Config.sampleEnc (.cycle .ident 0 0b00000000010101010101010110101010) = .ok .identUnlock1 ∧
    decode Config.sampleEnc (.cycle .ident 1 0b00000000001010101010101001010101) = .ok .identUnlock2 ∧
    decode Config.sampleEnc (.cycle .ident 2 0b00000000010101010101010110010000) = .ok .identIdEntry := by decide
theorem test_decode_program :
    decode Config.sampleEnc (.cycle .program 0 0b00000000010101010101010110101010) = .ok .programUnlock1 ∧
    decode Config.sampleEnc (.cycle .program 1 0b00000000001010101010101001010101) = .ok .programUnlock2 ∧
    decode Config.sampleEnc (.cycle .program 2 0b00000000010101010101010110100000) = .ok .programProgSetup ∧
    decode Config.sampleEnc (.cycle .program 3 0b00000000010101010101010110101010) = .ok (.programProgData 0x5555 0xAA) := by
  decide
theorem test_decode_erase :
    decode Config.sampleEnc (.cycle .erase 0 0b00000000010101010101010110101010) = .ok .eraseErasePre0 ∧
    decode Config.sampleEnc (.cycle .erase 1 0b00000000001010101010101001010101) = .ok .eraseErasePre1 ∧
    decode Config.sampleEnc (.cycle .erase 2 0b00000000010101010101010110000000) = .ok .eraseErasePre2 ∧
    decode Config.sampleEnc (.cycle .erase 3 0b00000000010101010101010110101010) = .ok .eraseErasePre3 ∧
    decode Config.sampleEnc (.cycle .erase 4 0b00000000001010101010101001010101) = .ok .eraseErasePre4 ∧
    decode Config.sampleEnc (.cycle .erase 5 0b00000000000100000000000000110000) = .ok (.eraseSectorErase 0x001000) := by
  decide
theorem test_decode_reset :
    decode Config.sampleEnc (.cycle .reset 0 0b00000000000000000000000011110000) = .ok (.resetReset 0) := by decide
theorem test_decode_bad_cycles :
    decode Config.sampleEnc (.cycle .ident 0 0x00055590) = .error .notThisCycle ∧
    decode Config.sampleEnc (.cycle .ident 3 0x005555AA) = .error .noSuchPosition ∧
    decode Config.sampleEnc (.cycle .erase 5 0x00100031) = .error .notThisCycle ∧
    decode Config.sampleEnc (.cycle .reset 1 0x000000F0) = .error .noSuchPosition := by decide

/-- Rows of the opcode table read without their place (log entry 11). -/
theorem test_table_words :
    decodeTableWord 32 0x0000001B = some .writeFlashWhole ∧ decodeTableWord 64 0xB700000000220000 = some (.encRead 0) ∧
    decodeTableWord 64 0xD400000000010000 = some (.encCycleSub01 0 0) ∧
    decodeTableWord 64 0xD400000000030000 = some (.encCycleProgram 0 0) ∧
    decodeTableWord 64 0 = some (.frameG 0 0 0) ∧ decodeTableWord 32 0x00555590 = some .identIdEntry ∧
    decodeTableWord 32 0x005555A0 = some .programProgSetup ∧ decodeTableWord 32 0x00555580 = some .eraseErasePre2 ∧
    decodeTableWord 32 0x00000030 = some (.eraseSectorErase 0) ∧ decodeTableWord 32 0x000000F0 = some (.resetReset 0) ∧
    decodeTableWord 32 0 = some (.programProgData 0 0) := by decide

/-- A placed row is what `step` runs first after reset. -/
theorem test_fetch_request : nextHas (step (State.reset.withFetchWord 32 0x00000003)) (fun t => t.res0 == 0x98) = true := by
  decide
theorem test_fetch_frame :
    (State.reset.withFetchWord 64 0xB700000012220000).nextInstr = some (.encRead 0x00000012) := by decide

/-! ### One step of each instruction -/

theorem test_build_frame_g :
    nextHas (exec .buildFrameG (withArgs 0x000001B7 0x00012345 0xABCD2200 0 [] State.reset))
      (fun t => t.res0 == 0xB7000123 && t.res1 == 0x45220000 && t.done && t.err == .ok) = true := by decide
theorem test_build_frame_a3 :
    nextHas (exec .buildFrameA3 (withArgs 0xFF 0x00FFFFFF 0xFF 0xFFFF [] State.reset))
      (fun t => t.res0 == 0xFFFFFFFF && t.res1 == 0xFFFFFF00) = true := by decide
theorem test_build_frame_a3_wide :
    nextHas (exec .buildFrameA3 (withArgs 0xD4 0x01000000 0xAA 0x0300 [] State.reset))
      (fun t => t.err.code == 9 && t.errInfo == 0x01000000 && t.res0 == 0 && t.res1 == 0) = true := by decide
theorem test_encrypt_byte :
    nextHas (exec .encryptByte (withArgs 0x000001D5 0 0 0 [] State.reset)) (fun t => t.res0 == 0x000000FF) = true := by
  decide
theorem test_decrypt_byte :
    nextHas (exec .decryptByte (withArgs 0xFF 0 0 0 [] State.reset)) (fun t => t.res0 == 0x000000D5) = true := by decide
theorem test_encrypt_buffer :
    nextHas (exec .encryptBuffer (withArgs 0 3 0 0 [0x00, 0xFF, 0xD5] State.reset))
      (fun t => t.dataOut == [0x98, 0x67, 0xFF] && t.res0 == 3) = true := by decide
theorem test_encrypt_buffer_length :
    nextHas (exec .encryptBuffer (withArgs 0 2 0 0 [1, 2, 3] State.reset))
      (fun t => t.err.code == 9 && t.errInfo == 2 && t.dataOut == []) = true := by decide
/-- 70 R216, 95 section 2: single-bit inputs of both transforms. -/
theorem test_transform_bits :
    [0x01, 0x02, 0x04, 0x08, 0x10, 0x20, 0x40, 0x80].map encryptByte =
      [0xB8, 0x88, 0x9A, 0x90, 0xD8, 0x18, 0x99, (0x9C : Byte)] ∧
    [0x01, 0x02, 0x04, 0x08, 0x10, 0x20, 0x40, 0x80].map decryptByte =
      [0x6A, 0x2E, 0xAA, 0x22, 0x28, 0x2B, 0x3A, (0x0A : Byte)] := by decide

theorem test_identify :
    nextHas (exec .identify ready)
      (fun t => t.dialect == .none && t.chipId == 0 && t.busy && t.fsm.code == 1 && t.sent == []) = true := by decide
theorem test_shutdown :
    nextHas (exec .shutdown ready) (fun t => t.dialect == .none && t.chipId == 0 && t.done && !t.busy) = true := by decide
theorem test_erase_block_range :
    nextHas (exec .eraseBlock (withArgs 0xFC 5 1 0 [] ready))
      (fun t => t.err.code == 8 && t.errInfo == 0xFC && t.sent == []) = true := by decide
theorem test_erase_block_priority :
    nextHas (exec .eraseBlock (withArgs 0 4 0 0 [] State.reset)) (fun t => t.err.code == 10 && t.errInfo == 0) = true := by
  decide
theorem test_erase_chip_range :
    nextHas (exec .eraseChip (withArgs 0xC1 0 1 0 [] ready)) (fun t => t.err.code == 8 && t.errInfo == 0xC1) = true := by
  decide
theorem test_erase_chip_in_range :
    nextHas (exec .eraseChip (withArgs 0xC0 0 1 0 [] ready))
      (fun t => t.busy && t.outer.code == 1 && t.locAddr == 0xC0 && t.locLen == 0x10) = true := by decide
theorem test_program_byte_range :
    nextHas (exec .programByte (withArgs 0x100 0 1 0 [] ready)) (fun t => t.err.code == 8 && t.errInfo == 0x100) = true := by
  decide
theorem test_program_byte_wire :
    nextHas (exec .programByte (withArgs 0xFF 0x1234567A 1 0 [] ready)) (fun t => t.busy && t.locVal == 0x7A) = true := by
  decide
theorem test_read_flash_no_wrap :
    nextHas (exec .readFlash (withArgs 0xFFFFFFFF 2 0 0 [] ready))
      (fun t => t.err.code == 8 && t.errInfo == 0xFFFFFFFF) = true := by decide
theorem test_read_flash_nothing :
    nextHas (exec .readFlash (withArgs 0x100 0 0 0 [] ready))
      (fun t => t.err == .ok && t.done && !t.busy && t.dataOut == [] && t.sent == []) = true := by decide
theorem test_write_flash_budget_first :
    nextHas (exec .writeFlash (withArgs 0 2 0 0 [0x41] ready)) (fun t => t.err.code == 9 && t.errInfo == 0) = true := by
  decide
theorem test_write_flash_aligned :
    nextHas (exec .writeFlash (withArgs 0x1F 2 1 0 [1, 2] ready))
      (fun t => t.busy && t.outer.code == 2 && t.locAddr == 0x10 && t.locLen == 0x10) = true := by decide
theorem test_write_whole :
    nextHas (exec .writeFlashWhole (withArgs 0x44 1 1 0 [0] ready))
      (fun t => t.aWhole && t.locAddr == 0 && t.locLen == 0x10) = true := by decide
theorem test_write_whole_not_ready :
    nextHas (exec .writeFlashWhole (withArgs 0 1 0 0 [1] State.reset)) (fun t => t.err.code == 10) = true := by decide

theorem test_frame_g :
    nextHas (exec (.frameG 0xB7 0x00012345 0x2200) State.reset)
      (fun t => t.res0 == 0xB7000123 && t.res1 == 0x45220000) = true := by decide
theorem test_frame_a3 :
    nextHas (exec (.frameA3 0xD4 0x005555 0xAA 0x0300) State.reset)
      (fun t => t.res0 == 0xD4005555 && t.res1 == 0xAA030000) = true := by decide
/-- 43 R153's example, its first word. -/
theorem test_enc_read :
    nextHas (exec (.encRead 0x10) (answered (.ok ⟨0xD5, 0x2A, 0x67, 0x98⟩) (atRead 0x10 6 0 [])))
      (fun t => t.out == [0xFF, 0x00, 0x2B, 0xD4] && frames t == [[0xB7, 0, 0, 0, 0x10, 0x22, 0, 0]]) = true := by decide
/-- 43 R153's example, its second word: two bytes of it are kept. -/
theorem test_enc_read_surplus :
    nextHas (exec (.encRead 0x14) (answered (.ok ⟨0x00, 0x01, 0x02, 0x03⟩) (atRead 0x10 6 4 [0xFF, 0x00, 0x2B, 0xD4])))
      (fun t => t.out == [0xFF, 0x00, 0x2B, 0xD4, 0x98, 0xB8] && t.todo == .complete &&
        t.progress == [⟨6, 6, .read⟩]) = true := by decide
theorem test_enc_sub01 :
    nextHas (exec (.encCycleSub01 0x000000 0xF0) (answered none4 (atReset 0x0000B5BF)))
      (fun t => frames t == [[0xD4, 0, 0, 0, 0xF0, 0x01, 0, 0]] && t.todo == .complete) = true := by decide
theorem test_enc_program_fails :
    nextHas (exec (.encCycleProgram 0x000123 0x5A) (answered .fail (ready.place (.programProgData 0x000123 0x5A))))
      (fun t => frames t == [[0xD4, 0, 0x01, 0x23, 0x5A, 0x03, 0, 0]] && t.err.code == 5 && t.errInfo == 0x00000123 &&
        !t.busy) = true := by decide
theorem test_plain_read :
    nextHas (exec (.plainRead 0xC1 0x30 0) (answered (.ok ⟨0x5A, 0xFF, 0xFF, 0xFF⟩) { atProgramPoll 0x30 0x5A 2 with
      cfg := Config.samplePlain }))
      (fun t => frames t == [[0xC1, 0, 0, 0, 0x30, 0, 0, 0]] && t.todo == .complete) = true := by decide
theorem test_plain_cycle :
    nextHas (exec (.plainCycle 0xC0 0x002AAA 0x55 0) (answered none4 (readyPlain.place .identUnlock2)))
      (fun t => frames t == [[0xC0, 0, 0x2A, 0xAA, 0x55, 0, 0, 0]] && t.seqIdx == 2) = true := by decide

theorem test_ident_unlock1 :
    nextHas (exec .identUnlock1 (answered none4 (ready.place .identUnlock1)))
      (fun t => frames t == [[0xD4, 0, 0x55, 0x55, 0xAA, 0x01, 0, 0]] && t.seqIdx == 1) = true := by decide
theorem test_ident_unlock2_fails :
    nextHas (exec .identUnlock2 (answered .fail (ready.place .identUnlock2)))
      (fun t => t.err.code == 5 && t.errInfo == 0x00002AAA && t.fsm == .idle) = true := by decide
theorem test_ident_id_entry :
    nextHas (exec .identIdEntry (answered none4 (ready.place .identIdEntry)))
      (fun t => frames t == [[0xD4, 0, 0x55, 0x55, 0x90, 0x01, 0, 0]] && t.todo == .read && t.cur == 0) = true := by decide
theorem test_program_unlock1 :
    nextHas (exec .programUnlock1 (answered none4 (ready.place .programUnlock1)))
      (fun t => frames t == [[0xD4, 0, 0x55, 0x55, 0xAA, 0x03, 0, 0]] && t.seqIdx == 1) = true := by decide
theorem test_program_unlock2 :
    nextHas (exec .programUnlock2 (answered none4 (ready.place .programUnlock2)))
      (fun t => frames t == [[0xD4, 0, 0x2A, 0xAA, 0x55, 0x03, 0, 0]] && t.seqIdx == 2) = true := by decide
theorem test_program_setup :
    nextHas (exec .programProgSetup (answered none4 (ready.place .programProgSetup)))
      (fun t => frames t == [[0xD4, 0, 0x55, 0x55, 0xA0, 0x03, 0, 0]] && t.seqIdx == 3) = true := by decide
theorem test_program_data :
    nextHas (exec (.programProgData 0x000012 0x7A) (answered none4 (ready.place (.programProgData 0x000012 0x7A))))
      (fun t => frames t == [[0xD4, 0, 0x00, 0x12, 0x7A, 0x03, 0, 0]] && t.fsm.code == 5 && t.cur == 0x12) = true := by
  decide
theorem test_erase_preamble_01 :
    nextHas (exec .eraseErasePre0 (answered none4 (ready.place .eraseErasePre0)))
      (fun t => frames t == [[0xD4, 0, 0x55, 0x55, 0xAA, 0x01, 0, 0]] && t.seqIdx == 1) = true ∧
    nextHas (exec .eraseErasePre1 (answered none4 (ready.place .eraseErasePre1)))
      (fun t => frames t == [[0xD4, 0, 0x2A, 0xAA, 0x55, 0x01, 0, 0]] && t.seqIdx == 2) = true := by decide
theorem test_erase_preamble_234 :
    nextHas (exec .eraseErasePre2 (answered none4 (ready.place .eraseErasePre2)))
      (fun t => frames t == [[0xD4, 0, 0x55, 0x55, 0x80, 0x01, 0, 0]] && t.seqIdx == 3) = true ∧
    nextHas (exec .eraseErasePre3 (answered none4 (ready.place .eraseErasePre3)))
      (fun t => frames t == [[0xD4, 0, 0x55, 0x55, 0xAA, 0x01, 0, 0]] && t.seqIdx == 4) = true ∧
    nextHas (exec .eraseErasePre4 (answered none4 (ready.place .eraseErasePre4)))
      (fun t => frames t == [[0xD4, 0, 0x2A, 0xAA, 0x55, 0x01, 0, 0]] && t.seqIdx == 5) = true := by decide
/-- 95 section 4.3, "unaligned erase". -/
theorem test_sector_erase :
    nextHas (exec (.eraseSectorErase 0x21) (answered none4 (atSectorErase 0x21 8 1)))
      (fun t => frames t == [[0xD4, 0, 0x00, 0x21, 0x30, 0x01, 0, 0]] && t.cur == 0x24 && t.fsm.code == 3) = true := by
  decide
/-- 95 section 4.3, "no aligned word". -/
theorem test_sector_erase_no_word :
    nextHas (exec (.eraseSectorErase 0x21) (answered none4 (atSectorErase 0x21 2 1)))
      (fun t => t.todo == .complete && t.fsm.code == 2) = true := by decide
theorem test_reset_unsupported :
    nextHas (exec (.resetReset 0) (answered none4 (atReset 0xFFFF1234)))
      (fun t => frames t == [[0xD4, 0, 0, 0, 0xF0, 0x01, 0, 0]] && t.err.code == 1 && t.errInfo == 0xFFFF1234 &&
        t.chipId == 0) = true := by decide
theorem test_reset_supported :
    nextHas (exec (.resetReset 0) (answered none4 (atReset 0x0000B5BF)))
      (fun t => t.err == .ok && t.busy && t.todo == .complete) = true := by decide

/-- 95 section 4.2: the program poll compares wire bytes, the erase poll raw bytes. -/
theorem test_polls :
    nextHas (step (answered (.ok ⟨0x41, 0xD5, 0xD5, 0xD5⟩) (atProgramPoll 0x31 0x41 1)))
      (fun t => t.todo == .complete) = true ∧
    nextHas (step (answered (.ok ⟨0xFF, 0xFF, 0xFF, 0xFF⟩) (atErasePoll 0x20 4 1 0x20)))
      (fun t => t.err.code == 4 && t.errInfo == 0x20) = true := by decide
/-- 95 section 5, P1: `STATUS` after IDENTIFY. -/
theorem test_status_word : ({ ready with done := true }.readReg .status) = 0x00002006 := by decide

/-! ### Witnesses: each statement's hypotheses are met together -/

theorem test_witness_DecodeInvertsEncode :
    (∀ i ∈ [Instr.encRead 0xFFFFFFFF, .encCycleSub01 0xFFFFFF 0xF0, .encCycleProgram 0 0, .programProgData 0xFF 0xAA,
      .eraseSectorErase 0xFF, .resetReset 0, .frameG 0 0 0, .frameA3 0 0 0 0, .writeFlashWhole],
      i.wf Config.sampleEnc = true) ∧
    (∀ i ∈ [Instr.plainRead 0xC1 0xFFFFFFFF 0, .plainCycle 0xC0 0xFFFFFF 0xFF 0], i.wf Config.samplePlain = true) := by
  decide

theorem test_witness_EncodeInvertsDecode :
    decode Config.sampleEnc (.cycle .program 3 0xFFFFFFFF) = .ok (.programProgData 0xFFFFFF 0xFF) := by decide

theorem test_witness_WrittenOutWordsDecode : Config.sampleEnc.profile = .enc := by decide

theorem test_witness_FrameConstructionIsInjective :
    layoutG 0xB7 0x00000100 0x2200 ≠ layoutG 0xB7 0x00000001 0x2200 ∧
    layoutG 0xB7 0x00000100 0x2200 = layoutG (0xB0 ||| 0x07) 0x100 0x2200 ∧
    layoutA3 0xD4 0 0 0 = layoutA3 0xD4 0 0 (0 <<< 8) ∧
    cycleFrame Config.sampleEnc .erase ⟨0, 0⟩ = cycleFrame Config.sampleEnc .erase ⟨0 &&& 1, 0⟩ ∧
    readFrame Config.samplePlain 4 = readFrame Config.samplePlain (2 + 2) := by decide

theorem test_witness_ReservedFrameByteIsZero :
    (⟨0xB7, 0, 0, 0, 0, 0x22, 0, 1⟩ : Frame).f7 ≠ 0 ∧
    (∀ x ∈ (atRead 0 4 0 []).sent, x.frame.f7 = 0) ∧
    nextHas (step (answered none4 (atRead 0 4 0 []))) (fun t => t.sent.length == 1) = true := by decide

theorem test_witness_ProfileFrames : Config.sampleEnc.profile = .enc ∧ Config.samplePlain.profile = .plain := by decide

theorem test_witness_TransformBitMaps : Config.sampleEnc.encrypting = true ∧ Config.samplePlain.encrypting = false := by
  decide

/-- Also for FrameRowsGiveTheirWord, ByteTransformRequests, Shutdown and IdentifyDiscardsAndBegins. -/
theorem test_witness_BuildFrameG : ready.busy = false := by decide

theorem test_witness_BuildFrameA3 :
    (withArgs 0 0x00FFFFFF 0 0 [] ready).busy = false ∧ (withArgs 0 0x00FFFFFF 0 0 [] ready).arg1.extractLsb' 24 8 = 0 ∧
    (withArgs 0 0x01000000 0 0 [] ready).arg1.extractLsb' 24 8 ≠ 0 := by decide

theorem test_witness_EncryptBuffer :
    (withArgs 0 2 0 0 [1, 2] ready).busy = false ∧
    (withArgs 0 2 0 0 [1, 2] ready).dataIn.length = (withArgs 0 2 0 0 [1, 2] ready).arg1.toNat ∧
    (withArgs 0 2 0 0 [1] ready).dataIn.length ≠ (withArgs 0 2 0 0 [1] ready).arg1.toNat := by decide

theorem test_witness_EraseAndProgramBegin :
    let s := withArgs 0xFC 4 1 0 [] ready
    let c := withArgs 0xC0 0 1 0 [] ready
    (s.busy = false ∧ s.dialect = .typeA ∧ s.arg2 ≠ 0 ∧ s.arg0.toNat < s.cfg.capacity ∧
      s.arg0.toNat + s.arg1.toNat ≤ s.cfg.capacity) ∧
    (c.busy = false ∧ c.dialect = .typeA ∧ c.arg2 ≠ 0 ∧ c.arg0.toNat < c.cfg.capacity ∧
      c.cfg.eraseChipPlan = 0x10 :: [0x10, 0x10, 0x10] ∧ c.arg0.toNat + c.cfg.eraseChipPlan.sum ≤ c.cfg.capacity) := by
  decide

theorem test_witness_ReadFlashBegins :
    let s := withArgs 0xFF 1 0 0 [] ready
    let z := withArgs 0x100 0 0 0 [] ready
    (s.busy = false ∧ s.dialect = .typeA ∧ s.arg0.toNat + s.arg1.toNat ≤ s.cfg.capacity ∧ s.arg1 ≠ 0) ∧
    (z.busy = false ∧ z.dialect = .typeA ∧ z.arg0.toNat + z.arg1.toNat ≤ z.cfg.capacity ∧ z.arg1 = 0) := by decide

theorem test_witness_WriteFlashBegins :
    let s := withArgs 0xFE 2 1 0 [1, 2] ready
    let z := withArgs 0x100 0 1 0 [] ready
    (s.busy = false ∧ s.dialect = .typeA ∧ s.arg2 ≠ 0 ∧ s.dataIn.length = s.arg1.toNat ∧
      s.arg0.toNat + s.arg1.toNat ≤ s.cfg.capacity ∧ s.cfg.WF ∧ s.cfg.eraseChipPlan = 0x10 :: [0x10, 0x10, 0x10] ∧
      s.arg1 ≠ 0) ∧
    (z.busy = false ∧ z.dialect = .typeA ∧ z.arg2 ≠ 0 ∧ z.dataIn.length = z.arg1.toNat ∧
      z.arg0.toNat + z.arg1.toNat ≤ z.cfg.capacity ∧ z.cfg.WF ∧ z.arg1 = 0) := by decide

theorem test_witness_AcceptanceChecksInOrder_illegal :
    let s := withHeld 0x00000017 ready
    s.cfg.WF ∧ s.host = [] ∧ s.busy = false ∧ s.held = some 0x00000017 ∧
    decodeRequest 0x00000017 = .error .wholeOutsideWriteFlash := by decide

theorem test_witness_AcceptanceChecksInOrder_word :
    encode ready.cfg .eraseBlock = .request 0x00000007 ∧ ready.busy = false := by decide

/-- Each of R181's checks 2 to 5 fails somewhere, at 95 sections 4.4 and 4.5's operands. -/
theorem test_witness_AcceptanceChecksInOrder_rejects :
    Rejects .eraseBlock (withArgs 0 4 0 0 [] State.reset) .notReady 0 ∧
    Rejects .readFlash { withArgs 0x100 4 0 0 [] ready with dialect := .typeB } .unimplemented 0 ∧
    Rejects .eraseBlock (withArgs 0x100 0 0 0 [] ready) .invalidArgument 0 ∧
    Rejects .buildFrameA3 (withArgs 0 0x01000000 0 0 [] ready) .invalidArgument 0x01000000 ∧
    Rejects .encryptBuffer (withArgs 0 2 0 0 [1, 2, 3] ready) .invalidArgument 2 ∧
    Rejects .writeFlash (withArgs 0 2 1 0 [0x41] ready) .invalidArgument 2 ∧
    Rejects .eraseBlock (withArgs 0x100 0 1 0 [] ready) .outOfRange 0x100 :=
  ⟨.notReady (by decide) rfl, .unimplemented (by decide) rfl, .budget (by decide) rfl rfl, .address rfl (by decide),
    .buffer rfl (by decide), .payload (by decide) rfl (by decide) (by decide),
    .range (by decide) rfl (by decide) (by decide) (by unfold inRange; decide)⟩

theorem test_witness_AcceptanceChecksInOrder_passes : ∀ e v, ¬ Rejects .shutdown ready e v := by
  intro e v h
  cases h <;> simp_all [flashOperations]

theorem test_witness_FlashOperationsNeedADialect :
    Instr.readFlash ∈ flashOperations ∧ encode ready.cfg .readFlash = .request 0x0000000A ∧
    State.reset.busy = false ∧ State.reset.dialect = .none ∧ { ready with dialect := .typeB }.busy = false := by decide

theorem test_witness_RequestIsHeldWhileBusy :
    (withHeld 0xC (atRead 0 4 0 [])).busy = true ∧ (withHeld 0xC (atRead 0 4 0 [])).held = some 0xC ∧
    encode (atRead 0 4 0 []).cfg .shutdown = .request 0x0000000C ∧
    nextHas (step (answered none4 (withHeld 0xC (atRead 0 4 0 [])))) (fun t => t.held == some 0xC) = true := by decide

/-- Also for LastCyclesLeadToTheirRead. -/
theorem test_witness_CycleRowsAdvance : (answered none4 ready).nextAnswer = .ok ⟨0, 0, 0, 0⟩ := by decide

theorem test_witness_SectorEraseLeadsToItsPoll :
    (answered none4 (atSectorErase 0x21 8 1)).nextAnswer = .ok ⟨0, 0, 0, 0⟩ ∧
    alignedWords (0x21 : Addr24).toNat (answered none4 (atSectorErase 0x21 8 1)).locLen.toNat = 0x24 :: [0x28] := by decide

/-- IDENTIFY at the first of two reset cycles. -/
def atFirstOfTwoResets : State :=
  { atReset 0x0000B5BF with cfg := { Config.sampleEnc with resetSeq := [⟨0, 0xF0⟩, ⟨0x5555, 0xF0⟩] } }

theorem test_witness_ResetCyclesThenSupportCheck :
    let two := answered none4 atFirstOfTwoResets
    (two.nextAnswer = .ok ⟨0, 0, 0, 0⟩ ∧ two.cfg.resetSeq[(0 : BitVec 3).toNat]? = some ⟨0, 0xF0⟩ ∧
      two.cfg.resetSeq.length ≤ 6 ∧ (0 : BitVec 3).toNat + 1 < two.cfg.resetSeq.length) ∧
    ((1 : BitVec 3).toNat + 1 = two.cfg.resetSeq.length ∧ two.cfg.resetSeq[(1 : BitVec 3).toNat]? = some ⟨0x5555, 0xF0⟩ ∧
      two.locId.extractLsb' 0 16 ∈ two.cfg.supportedIds) ∧
    (atReset 0xFFFF1234).locId.extractLsb' 0 16 ∉ (atReset 0xFFFF1234).cfg.supportedIds := by decide

theorem test_witness_CycleFrameRowsAdvance :
    (∀ i ∈ [Instr.identUnlock2, .programProgSetup, .eraseErasePre4],
      (answered none4 (ready.place i)).nextAnswer = .ok ⟨0, 0, 0, 0⟩) ∧
    ((ready.place .identUnlock2).todo = .cycle .ident ∧ (ready.place .identUnlock2).seqIdx.toNat = 1 ∧ 1 + 1 < 3) ∧
    ((ready.place .programProgSetup).todo = .cycle .program ∧ (ready.place .programProgSetup).seqIdx.toNat = 2 ∧
      2 + 1 < 4) ∧
    ((ready.place .eraseErasePre4).todo = .cycle .erase ∧ (ready.place .eraseErasePre4).seqIdx.toNat = 4 ∧ 4 + 1 < 6) ∧
    ((answered none4 atFirstOfTwoResets).nextAnswer = .ok ⟨0, 0, 0, 0⟩ ∧
      (answered none4 atFirstOfTwoResets).todo = .cycle .reset ∧ (answered none4 atFirstOfTwoResets).seqIdx.toNat = 0 ∧
      0 + 1 < (answered none4 atFirstOfTwoResets).cfg.resetSeq.length) := by decide

theorem atSectorErase_inv : (atSectorErase 0x20 8 2).Inv where
  configured := by decide
  host := by constructor <;> decide
  seq := fun _ => .inr ⟨by decide, .inl ⟨by decide, by decide, by decide, by decide, by decide, by decide, by decide,
    .inl ⟨by decide, by decide, .inl (by decide)⟩⟩⟩

theorem atErasePoll_inv : (atErasePoll 0x20 8 1 0x24).Inv where
  configured := by decide
  host := by constructor <;> decide
  seq := fun _ => .inr ⟨by decide, .inl ⟨by decide, by decide, by decide, by decide, by decide, by decide, by decide,
    .inl ⟨by decide, by decide, .inr (by decide)⟩⟩⟩

theorem test_witness_CycleAndItsFrameAgree :
    (atSectorErase 0x20 8 2).Inv ∧ (atSectorErase 0x20 8 2).nextInstr = some (.eraseSectorErase 0x20) ∧
    encode (atSectorErase 0x20 8 2).cfg (.eraseSectorErase 0x20) = .cycle .erase 5 0x00002030 ∧
    decode (atSectorErase 0x20 8 2).cfg
      (.sent .cycle (cycleFrame (atSectorErase 0x20 8 2).cfg .erase (Cycle.ofWord 0x00002030))) =
        .ok (.encCycleSub01 0x20 0x30) :=
  ⟨atSectorErase_inv, by decide, by decide, by decide⟩

theorem test_witness_IdentificationReadKeepsTheIdentity :
    let s := answered (.ok ⟨0xBF, 0xB5, 0x00, 0x00⟩) { atReset 0 with todo := .read }
    s.nextAnswer = .ok ⟨0xBF, 0xB5, 0x00, 0x00⟩ ∧ IsRead (.encRead 0) 0 (layoutG 0xB7 0 0x2200) ∧ s.fsm = .ident :=
  ⟨by decide, .enc 0, by decide⟩

theorem test_witness_ErasePollStep :
    let s := answered (.ok erasedReply) (atErasePoll 0x20 8 1 0x20)
    let m := answered none4 (atErasePoll 0x20 8 1 0x20)
    let n := answered none4 (atErasePoll 0x20 8 2 0x20)
    IsRead (.encRead 0x20) 0x20 (layoutG 0xB7 0x20 0x2200) ∧
    (s.nextAnswer = .ok erasedReply ∧ s.fsm = .erasePoll ∧ ReadsErased s.cfg erasedReply ∧ s.wordsLeft = 0x24 :: []) ∧
    (m.nextAnswer = .ok ⟨0, 0, 0, 0⟩ ∧ m.fsm = .erasePoll ∧ ¬ ReadsErased m.cfg ⟨0, 0, 0, 0⟩ ∧ m.att + 1 = m.aBudget) ∧
    (n.nextAnswer = .ok ⟨0, 0, 0, 0⟩ ∧ n.fsm = .erasePoll ∧ ¬ ReadsErased n.cfg ⟨0, 0, 0, 0⟩ ∧ n.att + 1 ≠ n.aBudget) := by
  refine ⟨.enc 0x20, ?_, ?_, ?_⟩ <;> unfold ReadsErased <;> decide

theorem test_witness_ProgramPollStep :
    let s := answered (.ok ⟨0x5A, 0, 0, 0⟩) (atProgramPoll 0x30 0x5A 1)
    IsRead (.plainRead 0xC1 0x30 0) 0x30 (layoutG 0xC1 0x30 0) ∧
    (s.nextAnswer = .ok ⟨0x5A, 0, 0, 0⟩ ∧ s.fsm = .programPoll ∧ (0x5A : Byte) = s.locVal ∧ s.outer = .none) ∧
    ((0x00 : Byte) ≠ s.locVal ∧ s.att + 1 = s.aBudget) ∧
    (atProgramPoll 0x30 0x5A 2).att + 1 ≠ (atProgramPoll 0x30 0x5A 2).aBudget :=
  ⟨.plain 0xC1 0x30 0, by decide, by decide, by decide⟩

theorem test_witness_ReadFlashWordStep :
    let s := answered none4 (atRead 0x10 5 0 [])
    let e := answered none4 (atRead 0x10 4 0 [])
    IsRead (.encRead 0x10) 0x10 (layoutG 0xB7 0x10 0x2200) ∧ s.nextAnswer = .ok ⟨0, 0, 0, 0⟩ ∧ s.fsm = .reading ∧
    s.byteIdx.toNat + 4 < s.aLen.toNat ∧ e.fsm = .reading ∧ e.aLen.toNat ≤ e.byteIdx.toNat + 4 :=
  ⟨.enc 0x10, by decide, by decide, by decide, by decide, by decide⟩

theorem endsBlock (s : State) (h : s.nextAnswer = .ok erasedReply) (hf : s.fsm = .erasePoll)
    (he : ReadsErased s.cfg erasedReply) (hw : s.wordsLeft = []) :
    BlockEnding s (.encRead s.cur) (s.afterSend (layoutG 0xB7 s.cur 0x2200) 4 s.cfg.tRead) :=
  .polled erasedReply _ _ _ h (.enc _) hf he hw

theorem test_witness_EraseBodyEnds_noWord :
    let s := answered none4 (atSectorErase 0x21 2 1)
    BlockEnding s (.eraseSectorErase 0x21)
      { s.afterSend (cycleFrame s.cfg .erase ⟨0x21, 0x30⟩) 0 s.cfg.tCycle with seqIdx := 6, locAddr := 0x21 } ∧
    s.outer = .none :=
  ⟨.noWord ⟨0, 0, 0, 0⟩ 0x21 (by decide) (by decide), by decide⟩

theorem erasedReply_reads : ReadsErased Config.sampleEnc erasedReply := by
  unfold ReadsErased
  decide

/-- ERASE_CHIP of the whole plan from 0 at the last word of block `blk` at `la`. -/
def atPlanWord (blk la : Word) : State :=
  { answered (.ok erasedReply) (atLastWord true 0 [] blk la) with op := 0x8, outer := .eraseChip }

/-- WRITE_FLASH at the last word of block `blk` at `la`, which reads erased. -/
def atWriteWord (whole : Bool) (a : Word) (data : List Byte) (blk la : Word) : State :=
  answered (.ok erasedReply) (atLastWord whole a data blk la)

theorem atPlanWord_ends (blk la : Word) (hw : (atPlanWord blk la).wordsLeft = []) :
    ∃ u, BlockEnding (atPlanWord blk la) (.encRead (atPlanWord blk la).cur) u :=
  ⟨_, endsBlock _ rfl rfl erasedReply_reads hw⟩

theorem atWriteWord_ends (whole : Bool) (a : Word) (data : List Byte) (blk la : Word)
    (hw : (atWriteWord whole a data blk la).wordsLeft = []) :
    ∃ u, BlockEnding (atWriteWord whole a data blk la) (.encRead (atWriteWord whole a data blk la).cur) u :=
  ⟨_, endsBlock _ rfl rfl erasedReply_reads hw⟩

theorem test_witness_EraseBodyEnds_plan :
    (∃ u, BlockEnding (atPlanWord 2 0x20) (.encRead (atPlanWord 2 0x20).cur) u) ∧
      (atPlanWord 2 0x20).outer = .eraseChip ∧
      (atPlanWord 2 0x20).cfg.eraseChipPlan[(atPlanWord 2 0x20).blkIdx.toNat + 1]? = some 0x10 ∧
    (∃ u, BlockEnding (atPlanWord 3 0x30) (.encRead (atPlanWord 3 0x30).cur) u) ∧
      (atPlanWord 3 0x30).outer = .eraseChip ∧
      (atPlanWord 3 0x30).cfg.eraseChipPlan[(atPlanWord 3 0x30).blkIdx.toNat + 1]? = none :=
  ⟨atPlanWord_ends _ _ (by decide), by decide, by decide, atPlanWord_ends _ _ (by decide), by decide, by decide⟩

theorem test_witness_EraseBodyEnds_whole :
    (∃ u, BlockEnding (atWriteWord true 0x44 [0x11] 3 0x30) (.encRead (atWriteWord true 0x44 [0x11] 3 0x30).cur) u) ∧
    (atWriteWord true 0x44 [0x11] 3 0x30).outer = .writeFlash ∧ (atWriteWord true 0x44 [0x11] 3 0x30).aWhole = true ∧
    (atWriteWord true 0x44 [0x11] 3 0x30).cfg.eraseChipPlan[(atWriteWord true 0x44 [0x11] 3 0x30).blkIdx.toNat + 1]? =
      none ∧
    (atWriteWord true 0x44 [0x11] 3 0x30).aData = 0x11 :: [] :=
  ⟨atWriteWord_ends _ _ _ _ _ (by decide), by decide, by decide, by decide, by decide⟩

/-- Where the next block of a minimal erase would begin. -/
def nextBlock (s : State) : Nat :=
  s.aAddr.toNat / s.cfg.eraseBlockSize * s.cfg.eraseBlockSize + (s.blkIdx.toNat + 1) * s.cfg.eraseBlockSize

/-- 95 section 4.3, "write straddling two blocks": another block follows. -/
theorem test_witness_EraseBodyEnds_minimal_next :
    (∃ u, BlockEnding (atWriteWord false 0x0F [1, 2] 0 0) (.encRead (atWriteWord false 0x0F [1, 2] 0 0).cur) u) ∧
    (atWriteWord false 0x0F [1, 2] 0 0).outer = .writeFlash ∧ (atWriteWord false 0x0F [1, 2] 0 0).aWhole = false ∧
    nextBlock (atWriteWord false 0x0F [1, 2] 0 0) <
      (atWriteWord false 0x0F [1, 2] 0 0).aAddr.toNat + (atWriteWord false 0x0F [1, 2] 0 0).aLen.toNat :=
  ⟨atWriteWord_ends _ _ _ _ _ (by decide), by decide, by decide, by decide⟩

/-- 95 section 4.3, "write straddling two blocks" at its second block, whose end is past the window: the bytes follow. -/
theorem test_witness_EraseBodyEnds_minimal_last :
    (∃ u, BlockEnding (atWriteWord false 0x0F [1, 2] 1 0x10) (.encRead (atWriteWord false 0x0F [1, 2] 1 0x10).cur) u) ∧
    (atWriteWord false 0x0F [1, 2] 1 0x10).outer = .writeFlash ∧ (atWriteWord false 0x0F [1, 2] 1 0x10).aWhole = false ∧
    ¬ nextBlock (atWriteWord false 0x0F [1, 2] 1 0x10) <
      (atWriteWord false 0x0F [1, 2] 1 0x10).aAddr.toNat + (atWriteWord false 0x0F [1, 2] 1 0x10).aLen.toNat ∧
    (atWriteWord false 0x0F [1, 2] 1 0x10).aData = 1 :: [2] :=
  ⟨atWriteWord_ends _ _ _ _ _ (by decide), by decide, by decide, by decide, by decide⟩

theorem test_witness_WriteFlashByteEnds :
    let s := { answered (.ok ⟨0x7A, 0, 0, 0⟩) (atProgramPoll 0x12 0x7A 1) with
      op := 0xB, outer := .writeFlash, aAddr := 0x12, aLen := 2, aData := [0x41, 0x42] }
    IsRead (.encRead 0x12) 0x12 (layoutG 0xB7 0x12 0x2200) ∧ s.nextAnswer = .ok ⟨0x7A, 0, 0, 0⟩ ∧ s.fsm = .programPoll ∧
    (0x7A : Byte) = s.locVal ∧ s.outer = .writeFlash ∧ s.aData[s.byteIdx.toNat + 1]? = some 0x42 ∧
    { s with byteIdx := 1 }.aData[{ s with byteIdx := 1 }.byteIdx.toNat + 1]? = none :=
  ⟨.enc 0x12, by decide, by decide, by decide, by decide, by decide, by decide⟩

theorem test_witness_WordsAndBlocksOfAWindow :
    0 < (atRead 0 1 0 []).cfg.eraseBlockSize ∧ 0 < (atRead 0 1 0 []).aLen.toNat := by decide

theorem test_witness_SendRowsAbortOrChangeTheSequencerOnly :
    (∀ i ∈ [Instr.encRead 0, .plainCycle 0 0 0 0, .identUnlock1, .eraseErasePre2, .resetReset 0],
      (failureAddress Config.sampleEnc i).isSome = true) := by decide

theorem test_witness_FailedSendAborts :
    failureAddress ready.cfg (.resetReset 0) = some 0x00000000 ∧ failureAddress ready.cfg (.encRead 0x12) = some 0x12 ∧
    (answered .fail ready).nextAnswer = .fail := by decide

theorem test_witness_CompletionStep :
    ∀ o ∈ [(0x6 : BitVec 4), 0x7, 0x8, 0x9, 0xA, 0xB],
      let s := { atRead 0 4 4 [1, 2, 3, 4] with todo := .complete, op := o }
      s.cfg.WF ∧ s.host = [] ∧ s.busy = true ∧ s.todo = .complete ∧ s.op = o := by decide

theorem test_witness_StepRunsTheNextInstruction :
    let s := withHeld 0xC ready
    (s.busy = false ∧ s.held = some 0xC ∧ decode s.cfg (.request 0xC) = .ok .shutdown) ∧
    (s.cfg.WF ∧ s.nextInstr = some .shutdown ∧ s.host = []) ∧
    ({ s with host := [.run, .reset] }.nextInstr = some .shutdown ∧
      { s with host := [.run, .reset] }.host = .run :: [.reset]) ∧
    (ready.cfg.WF ∧ ready.host = [] ∧ ready.busy = false ∧ ready.held = none) := by decide

theorem test_witness_PlacedInstructionRunsNext :
    ∀ i ∈ [Instr.readFlash, .frameA3 1 2 3 4, .encRead 0xFFFFFFFF, .encCycleSub01 0xFFFFFF 1, .encCycleProgram 0xFF 1,
      .plainRead 7 0xFFFFFFFF 9, .plainCycle 7 0xFF 1 9, .identIdEntry, .programProgData 0xFF 0, .eraseSectorErase 0xFF,
      .resetReset 0],
      (State.reset.place i).cfg.WF ∧ i.wf (State.reset.place i).cfg = true := by decide

theorem test_witness_HostAccesses :
    ready.cfg.WF ∧ HostReg.arg3 ∈ [HostReg.arg0, .arg1, .arg2, .arg3] ∧
    { ready with host := [.write .arg3 0xFFFFFFFF] }.host = .write .arg3 0xFFFFFFFF :: [] ∧
    HostReg.status ∈ [HostReg.status, .errInfo, .chipId, .res0, .res1] ∧
    { ready with host := [.write .status 1, .run] }.host = .write .status 1 :: [.run] ∧
    ({ ready with host := [.request 0xB [1]] }.host = .request 0xB [1] :: [] ∧ ready.held = none) ∧
    { ready with host := [.write .req 0xC] }.host = .write .req 0xC :: [] ∧
    ({ withHeld 0xC ready with host := [.write .req 0x6] }.host = .write .req 0x6 :: [] ∧
      { withHeld 0xC ready with host := [.request 0xB [1]] }.host = .request 0xB [1] :: [] ∧
      { withHeld 0xC ready with host := [.write .arg0 1] }.host = .write .arg0 1 :: [] ∧
      { withHeld 0xC ready with host := [.read .res0] }.host = .read .res0 :: [] ∧ (withHeld 0xC ready).held ≠ none) ∧
    { ready with host := [.read .res1] }.host = .read .res1 :: [] := by decide

/-- R212, R33: an `ARG` write after a `REQ` write comes after its acceptance, also when the FCB is busy, and a read does not
find an earlier result. -/
theorem test_access_after_a_request_waits :
    nextHas (step { withHeld 0x3 ready with host := [.write .arg0 1] })
      (fun t => t.held == none && t.done && t.aAddr == ready.arg0 && t.host == [.write .arg0 1]) = true ∧
    nextHas (step { withHeld 0x6 ready with host := [.read .status] })
      (fun t => t.busy && !t.done && t.readData == ready.readData && t.host == [.read .status]) = true ∧
    nextHas (step (answered none4 { withHeld 0xC (atRead 0 4 0 []) with host := [.write .arg0 1] }))
      (fun t => t.sends == (atRead 0 4 0 []).sends + 1 && t.host == [.write .arg0 1]) = true := by decide

theorem test_witness_ResetInput :
    let s := { atErasePoll 0x20 8 1 0x20 with host := [.reset, .run] }
    s.cfg.WF ∧ s.host = .reset :: [.run] := by decide

theorem test_witness_WhatResetAdmits :
    Config.samplePlain.WF ∧ decodeRequest 0xA = .ok .readFlash ∧ Instr.readFlash ∈ flashOperations ∧
    decodeRequest 0xC = .ok .shutdown ∧ decodeRequest 0x5 = .ok .encryptBuffer ∧ decodeRequest 0x6 = .ok .identify := by
  decide

/-- A step that takes the host's write of `ARG0` and one that sends: for ConfigurationIsFixed and
EveryStepSendsAtMostTheNextFrame. -/
theorem test_witness_ConfigurationIsFixed :
    nextHas (step { ready with host := [.write .arg0 1] }) (fun t => t.arg0 == 1) = true ∧
    nextHas (fcbStep (answered none4 (atRead 0x10 4 0 []))) (fun t => t.sends == 1) = true ∧
    (answered none4 (atRead 0x10 4 0 [])).nextExchange = some ⟨readFrame Config.sampleEnc 0x10, 4, 0⟩ := by decide

theorem test_witness_OnlyIdentifyShutdownAndResetWriteTheDialect :
    (withHeld 0xC ready).busy = false ∧
    nextHas (step (withHeld 0xC ready)) (fun t => t.dialect != ready.dialect) = true ∧
    nextHas (step (withHeld 0x6 ready)) (fun t => t.dialect != ready.dialect) = true ∧
    nextHas (step { ready with host := [.reset] }) (fun t => t.dialect != ready.dialect) = true ∧
    nextHas (step { atReset 0x0000B5BF with todo := .complete }) (fun t => t.dialect != .none) = true := by decide

theorem test_witness_OperandRegistersAreNoHazard :
    (atErasePoll 0x20 8 1 0x20).busy = true ∧
    nextHas (fcbStep (answered none4 (atErasePoll 0x20 8 1 0x20))) (fun t => t.done) = true := by decide

theorem test_witness_ErrorDuringExecutionAborts :
    (atErasePoll 0x20 8 1 0x24).HostInv ∧ (answered none4 (atErasePoll 0x20 8 1 0x24)).HostInv ∧
    (answered none4 (atErasePoll 0x20 8 1 0x24)).busy = true ∧
    nextHas (fcbStep (answered none4 (atErasePoll 0x20 8 1 0x24))) (fun t => t.err != .ok) = true :=
  ⟨atErasePoll_inv.host, by constructor <;> decide, by decide, by decide⟩

/-- A busy state of the invariant and its step: for StepKeepsTheHostInvariant, StepKeepsTheInvariant,
InvariantStatesStepSafely, NextInstructionIsWellFormed and EveryOperationEnds. -/
theorem test_witness_StepKeepsTheInvariant :
    (atErasePoll 0x20 8 1 0x24).Inv ∧ (atErasePoll 0x20 8 1 0x24).host = [] ∧ (atErasePoll 0x20 8 1 0x24).busy = true ∧
    (atErasePoll 0x20 8 1 0x24).nextInstr = some (.encRead 0x24) ∧ (atSectorErase 0x20 8 2).Inv ∧
    (∃ t, step (atErasePoll 0x20 8 1 0x24) = .next t) :=
  ⟨atErasePoll_inv, by decide, by decide, by decide, atSectorErase_inv, ⟨_, rfl⟩⟩

theorem test_witness_ResetSatisfiesTheInvariant : Config.samplePlain.WF := by decide

theorem test_witness_ReadFlashReturnsTheWindow :
    let s := { withHeld 0xA (withArgs 0xFF 1 0 0 [] ready) with answers := [.ok erasedReply, .fail] }
    s.cfg.WF ∧ s.host = [] ∧ s.busy = false ∧ s.held = some 0x0000000A ∧ s.dialect = .typeA ∧ 0 < s.arg1.toNat ∧
    s.arg0.toNat + s.arg1.toNat ≤ s.cfg.capacity ∧ [erasedReply].length = (s.arg1.toNat + 3) / 4 ∧
    s.answers = [erasedReply].map Answer.ok ++ [.fail] := by decide

def miss4 : Reply := ⟨0, 0, 0, 0⟩
def hit5A : Reply := ⟨0x5A, 0, 0, 0⟩
def idB5BF : Reply := ⟨0xBF, 0xB5, 0x00, 0x00⟩

/-- PROGRAM_BYTE of 0x5A at the last byte, budget 2, with the answers it gets. -/
def programRequest (as : List Answer) : State := { withHeld 0x9 (withArgs 0xFF 0x5A 2 0 [] ready) with answers := as }

/-- IDENTIFY with the answers it gets. -/
def identifyRequest (as : List Answer) : State := { withHeld 0x6 ready with answers := as }

def programHits : State := programRequest [none4, none4, none4, none4, .ok miss4, .ok hit5A]
def programMisses : State := programRequest [none4, none4, none4, none4, .ok miss4, .ok miss4]
def identifyB5BF : State := identifyRequest [none4, none4, none4, .ok idB5BF, none4]
def identifyZero : State := identifyRequest [none4, none4, none4, none4, none4]

theorem test_witness_ProgramByteVerifiesByPolling_programHits :
    programHits.cfg.WF ∧ programHits.host = [] ∧ programHits.busy = false ∧ programHits.outer = .none ∧
    programHits.held = some 0x00000009 ∧ programHits.dialect = .typeA ∧ programHits.arg2 ≠ 0 ∧
    programHits.arg0.toNat < programHits.cfg.capacity ∧ (∀ x ∈ [miss4], x.r0 ≠ programHits.arg1.extractLsb' 0 8) ∧
    hit5A.r0 = programHits.arg1.extractLsb' 0 8 ∧ [miss4].length < programHits.arg2.toNat ∧
    programHits.answers = [none4, none4, none4, none4] ++ [miss4].map Answer.ok ++ Answer.ok hit5A :: [] := by decide

theorem test_witness_ProgramByteVerifiesByPolling_programMisses :
    programMisses.cfg.WF ∧ programMisses.host = [] ∧ programMisses.busy = false ∧ programMisses.outer = .none ∧
    programMisses.held = some 0x00000009 ∧ programMisses.dialect = .typeA ∧ programMisses.arg2 ≠ 0 ∧
    programMisses.arg0.toNat < programMisses.cfg.capacity ∧ (∀ x ∈ [miss4, miss4], x.r0 ≠ programMisses.arg1.extractLsb' 0 8) ∧
    [miss4, miss4].length = programMisses.arg2.toNat ∧
    programMisses.answers = [none4, none4, none4, none4] ++ [miss4, miss4].map Answer.ok ++ [] := by decide

theorem test_witness_IdentifySelectsTheDialectOrNothing_identifyB5BF :
    identifyB5BF.cfg.WF ∧ identifyB5BF.host = [] ∧ identifyB5BF.busy = false ∧ identifyB5BF.held = some 0x00000006 ∧
    [miss4].length = identifyB5BF.cfg.resetSeq.length ∧
    identifyB5BF.answers = [none4, none4, none4, Answer.ok idB5BF] ++ [miss4].map Answer.ok ++ [] ∧
    (idB5BF.r3 ++ idB5BF.r2 ++ idB5BF.r1 ++ idB5BF.r0).extractLsb' 0 16 ∈ identifyB5BF.cfg.supportedIds := by decide

theorem test_witness_IdentifySelectsTheDialectOrNothing_identifyZero :
    identifyZero.cfg.WF ∧ identifyZero.host = [] ∧ identifyZero.busy = false ∧ identifyZero.held = some 0x00000006 ∧
    [miss4].length = identifyZero.cfg.resetSeq.length ∧
    identifyZero.answers = [none4, none4, none4, Answer.ok miss4] ++ [miss4].map Answer.ok ++ [] ∧
    (miss4.r3 ++ miss4.r2 ++ miss4.r1 ++ miss4.r0).extractLsb' 0 16 ∉ identifyZero.cfg.supportedIds := by decide

/-- PROGRAM_BYTE of the wire byte `v` at the last byte of a small erased chip. -/
def smallBench (cfg : Config) (v : Byte) : Bench :=
  { fcb := { withHeld 0x9 (withArgs 0x0F (v.setWidth 32) 1 0 [] ready) with
      cfg := { cfg with capacity := 0x10, eraseChipPlan := [0x10] } }
    chip := ⟨cfg.encrypting, false, 0xB5BF, List.replicate 16 0xFF, [], false, false, false⟩ }

/-- Both families (95 section 5, P1: `TX(0x41) = 0x7A`; P2: the plain family's wire byte is the raw byte). -/
theorem test_witness_ProgrammedByteIsStoredRaw :
    ∀ b ∈ [smallBench Config.sampleEnc 0x7A, smallBench Config.samplePlain 0x41],
    b.fcb.cfg.WF ∧ b.fcb.host = [] ∧ b.fcb.busy = false ∧ b.fcb.outer = .none ∧ b.fcb.held = some 0x00000009 ∧
    b.fcb.dialect = .typeA ∧ b.fcb.arg2 ≠ 0 ∧ b.fcb.arg0.toNat < b.fcb.cfg.capacity ∧
    b.fcb.arg1.extractLsb' 0 8 = b.fcb.cfg.tx 0x41 ∧ b.chip.encrypting = b.fcb.cfg.encrypting ∧
    b.chip.mem.length = b.fcb.cfg.capacity ∧ b.chip.mem[b.fcb.arg0.toNat]? = some 0xFF ∧ b.chip.commands = [] ∧
    b.chip.idmode = false ∧ b.chip.progarm = false ∧ b.chip.erasearm = false := by decide

end Sys2Proof.Tests
end

/-! # Scope and safety of a step (00_scope.md)

What every row that makes a `Send` keeps, what the completion step returns, and that the invariant excludes a stop. -/

namespace Sys2Proof.Machine

variable {s u t : State}

/-! ### Rows that make a `Send` -/

/-- A `Send` row moves the sequencer only, then at most aborts with one of the errors of 60_exceptions.md R183. -/
theorem SendOutcome.sequencerOnly_then_abort {ans : Answer} {a : Word} (h : SendOutcome ans a u t) :
    ∃ w : State, u.SequencerOnly w ∧
      (t = w ∨ ∃ e v, e ∈ [ErrCode.unsupportedChip, .timeout, .transportError] ∧ t = w.raise e v) := by
  cases h with
  | failed => exact ⟨u, .refl u, .inr ⟨_, _, by simp, rfl⟩⟩
  | timeout r att => exact ⟨{ u with att := att }, by constructor <;> rfl, .inr ⟨_, _, by simp, rfl⟩⟩
  | unsupported r n => exact ⟨{ u with seqIdx := n }, by constructor <;> rfl, .inr ⟨_, _, by simp, rfl⟩⟩
  | went r _ _ hk => exact ⟨t, hk, .inl rfl⟩

/-- Settles O37: both outcomes keep the same registers, since the abort writes none of them. -/
theorem sendRowsAbortOrChangeTheSequencerOnly : Obligations.SendRowsAbortOrChangeTheSequencerOnly := by
  intro s i hi
  obtain ⟨a, ha⟩ := Option.isSome_iff_exists.mp hi
  obtain ⟨la, lv, x, t, hx, he, ho⟩ := exec_send_outcome s ha
  obtain ⟨w, hk, ht⟩ := ho.sequencerOnly_then_abort
  rcases ht with rfl | ⟨e, v, hmem, rfl⟩ <;>
    refine ⟨_, x, he, hx, hk.sent, hk.sends, hk.answers, hk.cfg, hk.reqLatch, hk.arg0, hk.arg1, hk.arg2, hk.arg3,
      hk.dataIn, hk.held, hk.host, hk.readData, hk.dialect, hk.chipId, hk.op, hk.aAddr, hk.aLen, hk.aBudget,
      hk.aWhole, hk.aData, ?_⟩
  · exact .inl ⟨hk.busy, hk.done, hk.err, hk.errInfo, hk.outer, hk.res0, hk.res1, hk.dataOut⟩
  · exact .inr ⟨e, v, hmem, rfl⟩

/-! ### The sequencer always has a step -/

/-- The number of cycles of the sequence of kind `k` (30_encoding.md R77 to R81). -/
def State.sequenceLength (s : State) : CycleKind → Nat
  | .ident => 3
  | .program => 4
  | .erase => 6
  | .reset => s.cfg.resetSeq.length

/-- `SEQ_IDX` selects a cycle exactly when it is a position of the sequence. -/
theorem State.cycleAtSeqIdx_isSome (k : CycleKind) :
    (s.cycleAtSeqIdx k).isSome = true ↔ s.seqIdx.toNat < s.sequenceLength k := by
  unfold State.cycleAtSeqIdx
  split <;> simp_all [State.sequenceLength]
  all_goals omega

/-- The sequencer has a `Send` or the completion to make next. -/
def State.HasNextStep (s : State) : Prop :=
  s.todo = .complete ∨ s.todo = .read ∨ ∃ k, s.todo = .cycle k ∧ s.seqIdx.toNat < s.sequenceLength k

theorem State.HasNextStep.nextInstr_isSome (h : s.HasNextStep) (hb : s.busy = true) (ht : s.todo ≠ .complete) :
    s.nextInstr.isSome = true := by
  rcases h with hc | hr | ⟨k, hk, hlt⟩
  · exact absurd hc ht
  · simp [nextInstr_of_read hb hr]
  · simpa [nextInstr_of_cycle hb hk, State.cycleAtSeqIdx_isSome] using hlt

theorem State.Ending.hasNextStep {f : Fsm} (h : s.Ending f) : s.HasNextStep := .inl h.2

theorem State.EraseStage.hasNextStep (h : s.EraseStage) : s.HasNextStep := by
  obtain ⟨-, -, ⟨-, ht, hlt⟩ | ⟨-, ht, -⟩⟩ := h
  · exact .inr (.inr ⟨.erase, ht, hlt⟩)
  · exact .inr (.inl ht)

theorem State.ProgramStage.hasNextStep (h : s.ProgramStage) : s.HasNextStep := by
  obtain ⟨-, ⟨-, ht, hlt⟩ | ⟨-, ht, -⟩⟩ := h
  · exact .inr (.inr ⟨.program, ht, hlt⟩)
  · exact .inr (.inl ht)

theorem State.InIdentify.hasNextStep (h : s.InIdentify) : s.HasNextStep := by
  obtain ⟨-, -, -, ⟨ht, hlt⟩ | ⟨ht, -⟩ | ⟨ht, hlt⟩ | ⟨ht, -⟩⟩ := h
  · exact .inr (.inr ⟨.ident, ht, hlt⟩)
  · exact .inr (.inl ht)
  · exact .inr (.inr ⟨.reset, ht, hlt⟩)
  · exact .inl ht

theorem State.InEraseBlock.hasNextStep (h : s.InEraseBlock) : s.HasNextStep := by
  obtain ⟨-, -, -, -, -, -, h | h | h⟩ := h <;> exact h.hasNextStep

theorem State.InEraseChip.hasNextStep (h : s.InEraseChip) : s.HasNextStep := by
  obtain ⟨-, -, -, -, ⟨-, h⟩ | h | h⟩ := h <;> exact h.hasNextStep

theorem State.InProgramByte.hasNextStep (h : s.InProgramByte) : s.HasNextStep := by
  obtain ⟨-, -, -, -, -, h | h⟩ := h <;> exact h.hasNextStep

theorem State.InReadFlash.hasNextStep (h : s.InReadFlash) : s.HasNextStep := by
  obtain ⟨-, -, -, -, ⟨ht, -⟩ | ⟨ht, -⟩⟩ := h
  · exact .inr (.inl ht)
  · exact .inl ht

theorem State.InWriteFlash.hasNextStep (h : s.InWriteFlash) : s.HasNextStep := by
  obtain ⟨-, -, -, -, -, ⟨-, -, h⟩ | ⟨-, -, -, -, h⟩ | ⟨-, -, -, h⟩ | h⟩ := h <;> exact h.hasNextStep

/-- Wherever an operation in progress stands, the sequencer has a next step. -/
theorem State.InOperation.hasNextStep (h : s.InOperation) : s.HasNextStep := by
  obtain ⟨-, h⟩ | ⟨-, ⟨-, h⟩ | ⟨-, h⟩ | ⟨-, h⟩ | ⟨-, h⟩ | ⟨-, h⟩⟩ := h <;> exact h.hasNextStep

/-! ### No instruction that is selected stops the machine -/

/-- A request word never decodes to a reset cycle. -/
theorem decodeRequest_ne_resetReset (w : Word) (j : BitVec 3) : decodeRequest w ≠ .ok (.resetReset j) := by
  unfold decodeRequest
  split
  · simp
  · split
    · split <;> simp
    · split <;> simp

/-- A selected reset cycle is one of `RESET_SEQ` (30_encoding.md R81). -/
theorem State.cycleAtSeqIdx_resetReset {k : CycleKind} {j : BitVec 3}
    (h : s.cycleAtSeqIdx k = some (.resetReset j)) : j.toNat < s.cfg.resetSeq.length := by
  unfold State.cycleAtSeqIdx at h
  split at h
  case h_17 =>
    obtain ⟨hlt, rfl⟩ : s.seqIdx.toNat < s.cfg.resetSeq.length ∧ s.seqIdx = j := by simpa using h
    exact hlt
  all_goals cases h

theorem State.nextInstr_resetReset {j : BitVec 3} (h : s.nextInstr = some (.resetReset j)) :
    j.toNat < s.cfg.resetSeq.length := by
  cases hb : s.busy with
  | true =>
    cases ht : s.todo with
    | cycle k => exact State.cycleAtSeqIdx_resetReset (nextInstr_of_cycle hb ht ▸ h)
    | read =>
      rw [nextInstr_of_read hb ht] at h
      cases hp : s.cfg.profile <;> simp [readInstr, hp] at h
    | idle | complete => simp [State.nextInstr, hb, ht] at h
  | false =>
    cases hw : s.held with
    | none => simp [State.nextInstr, hb, hw] at h
    | some w =>
      rw [nextInstr_of_held hb hw] at h
      cases hd : decodeRequest w with
      | error d => simp [hd, Except.toOption] at h
      | ok i =>
        obtain rfl : i = .resetReset j := by simpa [hd, Except.toOption] using h
        exact absurd hd (decodeRequest_ne_resetReset w j)

/-- Only a reset cycle beyond `RESET_SEQ` has no meaning. -/
theorem exec_answers {i : Instr} (h : ∀ j, i = .resetReset j → j.toNat < s.cfg.resetSeq.length) :
    ∃ t, exec i s = .next t := by
  cases i
  case resetReset j =>
    have hj : j.toNat < s.cfg.resetSeq.length := h j rfl
    exact ⟨s.cycleStep .reset j.toNat s.cfg.resetSeq[j.toNat], by simp [exec, execResetReset, hj]⟩
  all_goals exact ⟨_, rfl⟩

/-- A step of the FCB answers a next state, since a busy sequencer has a step to make (00_scope.md R6). -/
theorem State.SeqInv.fcbStep_answers (h : s.SeqInv) : ∃ t, fcbStep s = .next t := by
  rcases fcbStep_cases (s := s) with ⟨i, hi, he⟩ | ⟨-, -, he⟩ | ⟨hb, hn, hc, -⟩ | ⟨w, d, -, -, -, he⟩ | ⟨-, -, he⟩
  · rw [he]
    exact exec_answers fun j hj => State.nextInstr_resetReset (hj ▸ hi)
  · exact ⟨_, he⟩
  · have hs := (h hb).hasNextStep.nextInstr_isSome hb hc
    simp [hn] at hs
  · exact ⟨_, he⟩
  · exact ⟨_, he⟩

/-- Settles O54: a host action always answers, and the invariant gives a busy FCB its next step. -/
theorem invariantStatesStepSafely : Obligations.InvariantStatesStepSafely := by
  intro s hinv
  unfold State.StepsSafely
  rw [step_of_wf hinv.configured]
  rcases machineStep_cases (s := s) with he | ⟨rest, -, he⟩ | ⟨_, _, _, -, he⟩ | ⟨_, _, _, -, -, -, he⟩ |
    ⟨_, _, -, -, he⟩ | ⟨_, -, he⟩ <;> rw [he]
  · exact hinv.seq.fcbStep_answers
  · have hseq : { s with host := rest }.SeqInv := hinv.seq
    exact hseq.fcbStep_answers
  all_goals exact ⟨_, rfl⟩

/-! ### The completion step -/

/-- Left alone by the host, an FCB with only the completion left makes it. -/
theorem step_of_complete (hcfg : s.cfg.WF) (hhost : s.host = []) (hb : s.busy = true) (ht : s.todo = .complete) :
    step s = .next s.completion := by
  rw [step_of_wf hcfg, machineStep_of_no_host hhost, fcbStep_of_complete hb ht]

/-- The model's end of a sequencer operation is the one the statements write out. -/
theorem State.finish_eq_afterOperation (r0 r1 : Word) : s.finish r0 r1 = s.afterOperation r0 r1 := rfl

/-- `DIALECT_OF` by membership (42_identification.md R133). -/
theorem dialectOf_eq_ite_mem (c : Config) (id : Word) :
    c.dialectOf id = if id.extractLsb' 0 16 ∈ c.typeBIds then .typeB else .typeA := by
  simp [Config.dialectOf]

/-- Settles O39: `OP` selects the operation's last actions. -/
theorem completionStep : Obligations.CompletionStep := by
  intro s hcfg hhost hb ht
  rw [step_of_complete hcfg hhost hb ht]
  refine ⟨fun h => ?_, fun h => ?_, fun h => ?_, fun h => ?_, fun h => ?_⟩
  · simp [State.completion, h, dialectOf_eq_ite_mem, State.finish_eq_afterOperation]
  · rcases h with h | h <;> simp [State.completion, h, State.finish_eq_afterOperation]
  · simp [State.completion, h, Config.planTotal, State.finish_eq_afterOperation]
  · simp [State.completion, h, State.finish_eq_afterOperation]
  · simp [State.completion, h, State.finish_eq_afterOperation]

end Sys2Proof.Machine

/-! # The registers and the invariants (10_state.md)

What a step of a busy FCB can do, where it leaves each operation, what an accepted request can do, and from these that
every step keeps the invariants; then the request register, `DIALECT`, the host's accesses and `STATUS`. -/

namespace Sys2Proof.Machine

variable {s t u : State}

/-! ### What a step of a busy FCB can do -/

/-- `s`, with the traffic of a `Send` done, goes on to `t`: the computation after the cycle at `SEQ_IDX`, or after a
read (00_scope.md R7). -/
inductive State.Advances (s : State) : State → Prop where
  | cycle (k : CycleKind) : s.todo = .cycle k → s.seqIdx.toNat < s.sequenceLength k →
      Advances s (s.cycleSent k (s.seqIdx.toNat + 1))
  | read (r : Reply) : s.todo = .read → Advances s (s.readDone r)

theorem word_through_addr24 {a : Word} (h : a.toNat < 2 ^ 24) : (a.setWidth 24).setWidth 32 = a := by
  apply BitVec.eq_of_toNat_eq
  simp only [BitVec.toNat_setWidth]
  omega

/-- The next cycle may carry the operation's own address: a program or an erase cycle (43 R144, R145). -/
def State.CarriesAddress (s : State) : Prop := ∃ k, s.todo = .cycle k ∧ (k = .program ∨ k = .erase)

/-- The cycle at `SEQ_IDX` is a cycle step at that position. A program or sector address goes through the 24 bits of a
cycle, which an address in the flash window survives. -/
theorem exec_of_cycleAtSeqIdx {k : CycleKind} {i : Instr} (h : s.cycleAtSeqIdx k = some i) :
    ∃ (la : Word) (c : Cycle), ((k = .program ∨ k = .erase → s.locAddr.toNat < 2 ^ 24) → la = s.locAddr) ∧
      exec i s = .next ({ s with locAddr := la }.cycleStep k s.seqIdx.toNat c) := by
  unfold State.cycleAtSeqIdx at h
  split at h
  case h_8 hpos =>
    cases h
    exact ⟨(s.locAddr.setWidth 24).setWidth 32, ⟨s.locAddr.setWidth 24, s.locVal⟩,
      fun h => word_through_addr24 (h (by simp)), by rw [hpos]; rfl⟩
  case h_15 hpos =>
    cases h
    exact ⟨(s.locAddr.setWidth 24).setWidth 32, ⟨s.locAddr.setWidth 24, eraseTerminator⟩,
      fun h => word_through_addr24 (h (by simp)), by rw [hpos]; rfl⟩
  case h_17 =>
    obtain ⟨hlt, rfl⟩ : s.seqIdx.toNat < s.cfg.resetSeq.length ∧ .resetReset s.seqIdx = i := by simpa using h
    exact ⟨s.locAddr, s.cfg.resetSeq[s.seqIdx.toNat], fun _ => rfl, by simp [exec, execResetReset, hlt]⟩
  all_goals cases h
  all_goals
    rename_i hpos
    exact ⟨s.locAddr, _, fun _ => rfl, by rw [hpos]; rfl⟩

theorem exec_readInstr (a : Word) :
    exec (readInstr s.cfg a) s = .next (s.sendRead (readFrame s.cfg a) a State.readDone) := by
  cases h : s.cfg.profile <;> simp only [readInstr, readFrame, h] <;> rfl

/-- `t` follows `s` by one `Send` of the sequencer (00_scope.md R7, R9): it fails, or the sequencer goes on. -/
inductive State.Sends (s : State) : State → Prop where
  | failed (f : Frame) (n m : Nat) (a : Word) : Sends s ((s.send f n m).raise .transportError a)
  | went (f : Frame) (n m : Nat) (t : State) : (s.send f n m).Advances t → Sends s t

theorem State.cycleStep_sends {k : CycleKind} (c : Cycle) (ht : s.todo = .cycle k)
    (hlt : s.seqIdx.toNat < s.sequenceLength k) : s.Sends (s.cycleStep k s.seqIdx.toNat c) := by
  unfold State.cycleStep
  rcases s.sendCycle_cases (cycleFrame s.cfg k c) c.addr (State.cycleSent k (s.seqIdx.toNat + 1)) with ⟨-, e⟩ | ⟨-, -, e⟩
    <;> rw [e]
  · exact .failed _ _ _ _
  · exact .went _ _ _ _ (.cycle k ht (by cases k <;> exact hlt))

theorem State.sendRead_sends (f : Frame) (a : Word) (ht : s.todo = .read) :
    s.Sends (s.sendRead f a State.readDone) := by
  rcases s.sendRead_cases f a State.readDone with ⟨-, e⟩ | ⟨r, -, e⟩ <;> rw [e]
  · exact .failed _ _ _ _
  · exact .went _ _ _ _ (.read r ht)

/-- What a busy FCB can have selected: the cycle at `SEQ_IDX`, or the read at `CUR`. -/
theorem nextInstr_of_busy {i : Instr} (hb : s.busy = true) (hi : s.nextInstr = some i) :
    (∃ k, s.todo = .cycle k ∧ s.cycleAtSeqIdx k = some i) ∨ (s.todo = .read ∧ readInstr s.cfg s.cur = i) := by
  cases ht : s.todo with
  | cycle k => exact .inl ⟨k, rfl, nextInstr_of_cycle hb ht ▸ hi⟩
  | read => exact .inr ⟨rfl, by simpa [nextInstr_of_read hb ht] using hi⟩
  | idle | complete => simp [State.nextInstr, hb, ht] at hi

/-- Everything a step of a busy FCB can do: one `Send`, or the completion. -/
theorem fcbStep_of_busy (hb : s.busy = true) (h : fcbStep s = .next t) :
    (∃ la : Word, ((s.CarriesAddress → s.locAddr.toNat < 2 ^ 24) → la = s.locAddr) ∧ { s with locAddr := la }.Sends t) ∨
    (s.todo = .complete ∧ t = s.completion) := by
  rcases fcbStep_cases (s := s) with ⟨i, hi, he⟩ | ⟨-, ht, he⟩ | ⟨-, -, -, he⟩ | ⟨_, _, hb', -⟩ | ⟨hb', -⟩
  · left
    rw [he] at h
    rcases nextInstr_of_busy hb hi with ⟨k, ht, hk⟩ | ⟨ht, rfl⟩
    · have hlt : s.seqIdx.toNat < s.sequenceLength k := (State.cycleAtSeqIdx_isSome k).mp (by rw [hk]; rfl)
      obtain ⟨la, c, hla, hx⟩ := exec_of_cycleAtSeqIdx hk
      rw [hx, Host.Outcome.next.injEq] at h
      have hla' : (s.CarriesAddress → s.locAddr.toNat < 2 ^ 24) → la = s.locAddr :=
        fun h => hla fun hkind => h ⟨k, ht, hkind⟩
      exact ⟨la, hla', h ▸ State.cycleStep_sends (s := { s with locAddr := la }) c ht (by cases k <;> exact hlt)⟩
    · rw [exec_readInstr, Host.Outcome.next.injEq] at h
      exact ⟨s.locAddr, fun _ => rfl, h ▸ State.sendRead_sends _ _ ht⟩
  · rw [he, Host.Outcome.next.injEq] at h
    exact .inr ⟨ht, h.symm⟩
  · simp [he] at h
  · simp [hb] at hb'
  · simp [hb] at hb'

/-- What the computation behind a `Send` can do: the abort of its rule, or a move of the sequencer alone. -/
theorem State.Advances.cases_raise (h : s.Advances t) :
    (∃ w e v, s.SequencerOnly w ∧ e ∈ [ErrCode.unsupportedChip, .timeout] ∧ t = w.raise e v) ∨ s.SequencerOnly t := by
  cases h with
  | cycle k _ _ =>
    rcases s.cycleSent_cases k (s.seqIdx.toNat + 1) with h | h
    · exact .inl ⟨{ s with seqIdx := BitVec.ofNat 3 (s.seqIdx.toNat + 1) }, _, _, by constructor <;> rfl, by simp, h⟩
    · exact .inr h
  | read r _ =>
    rcases s.readDone_cases r with h | h
    · exact .inl ⟨{ s with att := s.att + 1 }, _, _, by constructor <;> rfl, by simp, h⟩
    · exact .inr h

end Sys2Proof.Machine

namespace Sys2Proof

/-! ### Numbers inside the flash window (10_state.md R21) -/

variable {c : Config}

/-- Every address of the flash fits a cycle's 24 bits. -/
theorem capacity_le_of_wf (h : c.WF) : c.capacity ≤ 2 ^ 24 := by
  obtain ⟨⟨-, hc, -⟩, -⟩ := h
  exact hc

theorem planTotal_le_of_wf (h : c.WF) : c.planTotal ≤ c.capacity := by
  obtain ⟨-, -, ⟨-, -, hs⟩, -⟩ := h
  exact hs

theorem plan_head_of_wf (h : c.WF) : ∃ n, c.eraseChipPlan[0]? = some n := by
  obtain ⟨-, -, ⟨hne, -, -⟩, -⟩ := h
  exact ⟨_, List.getElem?_eq_getElem (List.length_pos_iff.mpr hne)⟩

/-- Block `i` of the plan is not empty, its index is a small number, and the block ends inside the plan's total. -/
theorem plan_block_of_wf (h : c.WF) {i n : Nat} (hi : c.eraseChipPlan[i]? = some n) :
    1 ≤ n ∧ i < 2 ^ 24 ∧ (c.eraseChipPlan.take (i + 1)).sum = (c.eraseChipPlan.take i).sum + n ∧
    (c.eraseChipPlan.take i).sum + n ≤ c.planTotal := by
  have hcap := capacity_le_of_wf h
  obtain ⟨-, -, ⟨-, hone, hs⟩, -⟩ := h
  have hsucc : (c.eraseChipPlan.take (i + 1)).sum = (c.eraseChipPlan.take i).sum + n := by
    simp [List.take_add_one, hi]
  have htotal := List.sum_take_add_sum_drop c.eraseChipPlan (i + 1)
  have hlen := List.length_le_sum_of_one_le c.eraseChipPlan hone
  have hlt := (List.getElem?_eq_some_iff.mp hi).1
  refine ⟨hone n (List.mem_of_getElem? hi), by omega, hsucc, ?_⟩
  unfold Config.planTotal
  omega

theorem nextAligned_eq_some {o stop w : Nat} (h : nextAligned o stop = some w) : w % 4 = 0 ∧ o ≤ w ∧ w < stop := by
  simp only [nextAligned, Option.ite_none_right_eq_some, Option.some.injEq] at h
  omega

/-- A multiple of the block size below the capacity starts a whole block. -/
theorem block_fits {b k m : Nat} (hdvd : m % b = 0) (hlt : k * b < m) : k * b + b ≤ m := by
  obtain ⟨q, rfl⟩ := Nat.dvd_of_mod_eq_zero hdvd
  have hkq : k < q := Nat.lt_of_mul_lt_mul_left (a := b) (by rwa [Nat.mul_comm b k])
  calc k * b + b = b * (k + 1) := by ring
    _ ≤ b * q := Nat.mul_le_mul_left b hkq

/-- Small numbers survive the way through a register. -/
theorem toNat_ofNat_of_lt {w n : Nat} (h : n < 2 ^ w) : (BitVec.ofNat w n).toNat = n := by
  rw [BitVec.toNat_ofNat, Nat.mod_eq_of_lt h]

end Sys2Proof

namespace Sys2Proof.Machine

variable {s t u : State}

/-! ### What follows a `Send`, by operation -/

theorem State.blockDone_of_eraseBlock (h : s.outer = .none) : s.blockDone = s.toCompletion := by
  simp [State.blockDone, h]

theorem State.blockDone_of_eraseChip (h : s.outer = .eraseChip) :
    s.blockDone = s.planBlockDone State.toCompletion := by
  simp [State.blockDone, h]

theorem State.blockDone_of_whole (h : s.outer = .writeFlash) (hw : s.aWhole = true) :
    s.blockDone = s.planBlockDone (State.programByteAt 0) := by
  simp [State.blockDone, h, hw]

theorem State.blockDone_of_minimal (h : s.outer = .writeFlash) (hw : s.aWhole = false) :
    s.blockDone = s.minimalEraseBlock (s.blkIdx.toNat + 1) := by
  simp [State.blockDone, h, hw]

theorem State.eraseChipBlock_of_some {i n : Nat} (h : s.cfg.eraseChipPlan[i]? = some n) (after : State → State) :
    s.eraseChipBlock i after =
      { s with blkIdx := BitVec.ofNat 32 i }.startErase (s.planStart.toNat + s.doneBytes.toNat) n := by
  simp [State.eraseChipBlock, h]

theorem State.eraseChipBlock_of_none {i : Nat} (h : s.cfg.eraseChipPlan[i]? = none) (after : State → State) :
    s.eraseChipBlock i after = after s := by
  simp [State.eraseChipBlock, h]

theorem State.programByteAt_of_some {i : Nat} {d : Byte} (h : s.aData[i]? = some d) :
    s.programByteAt i =
      { s with byteIdx := BitVec.ofNat 32 i, cur := s.aAddr + BitVec.ofNat 32 i }.startProgram
        (s.aAddr + BitVec.ofNat 32 i) (s.cfg.tx d) := by
  simp [State.programByteAt, h]

theorem State.programByteAt_of_none {i : Nat} (h : s.aData[i]? = none) : s.programByteAt i = s.toCompletion := by
  simp [State.programByteAt, h]

/-- A cycle before the last of its sequence moves `SEQ_IDX` only. -/
theorem State.cycleSent_of_not_last {k : CycleKind} {n : Nat} (h : n ≠ s.sequenceLength k) :
    s.cycleSent k n = { s with seqIdx := BitVec.ofNat 3 n } := by
  cases k <;> exact if_neg h

theorem State.Advances.todo_ne_complete (h : s.Advances t) : s.todo ≠ .complete := by
  cases h <;> simp [*]

/-- A poll that misses and does not give up stays within its budget (43_flash_programming.md R141, R143). -/
theorem State.pollMissed_of_busy (hatt : s.att.toNat < s.aBudget.toNat) (hb : s.pollMissed.busy = true) :
    s.pollMissed = { s with att := s.att + 1 } ∧ (s.att + 1).toNat < s.aBudget.toNat := by
  rcases s.pollMissed_cases with ⟨-, e⟩ | ⟨hne, e⟩
  · simp [e] at hb
  · refine ⟨e, ?_⟩
    have hlt := s.aBudget.isLt
    have hadd : (s.att + 1).toNat = s.att.toNat + 1 := BitVec.toNat_add_of_lt (by simp; omega)
    have := BitVec.toNat_ne.mp hne
    omega

/-! ### Inside `EraseBody` (43_flash_programming.md R144) -/

theorem State.startErase_eraseStage {a l : Nat} (hcap : s.cfg.capacity ≤ 2 ^ 24) (ha : a < s.cfg.capacity)
    (hl : a + l ≤ s.cfg.capacity) : (s.startErase a l).EraseStage := by
  have h1 : (BitVec.ofNat 32 a).toNat = a := toNat_ofNat_of_lt (by omega)
  have h2 : (BitVec.ofNat 32 l).toNat = l := toNat_ofNat_of_lt (by omega)
  refine ⟨by simpa [h1] using ha, by simpa [State.blockEnd, h1, h2] using hl, .inl ⟨rfl, rfl, ?_⟩⟩
  simp

/-- The `Send`s of an `EraseBody` leave it in its next place, or end it. -/
inductive State.EraseStep (s : State) : State → Prop where
  | within (f : Fsm) (q : BitVec 3) (a p : Word) (d : Todo) :
      { s with fsm := f, seqIdx := q, att := a, cur := p, todo := d }.EraseStage →
      EraseStep s { s with fsm := f, seqIdx := q, att := a, cur := p, todo := d }
  | ended (q : BitVec 3) : s.fsm = .erasing ∨ s.fsm = .erasePoll → EraseStep s { s with seqIdx := q }.blockDone

theorem State.EraseStage.fsm_erasing (h : s.EraseStage) : s.fsm = .erasing ∨ s.fsm = .erasePoll := by
  obtain ⟨-, -, ⟨hf, -⟩ | ⟨hf, -⟩⟩ := h
  · exact .inl hf
  · exact .inr hf

/-- The search for the next aligned word finds one inside the block, or the block ends. -/
theorem State.EraseStage.pollBlockFrom (hcap : s.cfg.capacity ≤ 2 ^ 24) (hbud : 1 ≤ s.aBudget.toNat)
    (h : s.EraseStage) (q : BitVec 3) {o : Nat} (ho : s.locAddr.toNat ≤ o) :
    s.EraseStep ({ s with seqIdx := q }.pollBlockFrom o) := by
  cases hn : nextAligned o s.blockEnd with
  | none =>
    have e : { s with seqIdx := q }.pollBlockFrom o = { s with seqIdx := q }.blockDone := by
      have hn' : nextAligned o { s with seqIdx := q }.blockEnd = none := hn
      simp [State.pollBlockFrom, hn']
    exact e ▸ .ended q h.fsm_erasing
  | some w =>
    have e : { s with seqIdx := q }.pollBlockFrom o =
        { s with fsm := .erasePoll, seqIdx := q, att := 0, cur := BitVec.ofNat 32 w, todo := .read } := by
      have hn' : nextAligned o { s with seqIdx := q }.blockEnd = some w := hn
      simp only [State.pollBlockFrom, hn']
      rfl
    obtain ⟨h4, how, hwe⟩ := nextAligned_eq_some hn
    obtain ⟨ha, he, -⟩ := h
    have hw : (BitVec.ofNat 32 w).toNat = w := toNat_ofNat_of_lt (by omega)
    rw [e]
    refine .within _ _ _ _ _ ⟨ha, he, .inr ⟨rfl, rfl, ?_⟩⟩
    exact ⟨by simpa only [hw] using h4, ho.trans (how.trans_eq hw.symm), hw.trans_lt hwe, hbud⟩

theorem State.EraseStage.advance (hcap : s.cfg.capacity ≤ 2 ^ 24) (hbud : 1 ≤ s.aBudget.toNat) (h : s.EraseStage)
    (ha : s.Advances t) (hb : t.busy = true) : s.EraseStep t := by
  have hstage := h
  obtain ⟨hlo, hend, ⟨hf, ht, hlt⟩ | ⟨hf, ht, h4, hge, hcur, hatt⟩⟩ := h
  · cases ha with
    | read r ht' => simp [ht] at ht'
    | cycle k ht' _ =>
      obtain rfl : k = .erase := by simpa [ht] using ht'.symm
      by_cases h6 : s.seqIdx.toNat + 1 = 6
      · have e : s.cycleSent .erase (s.seqIdx.toNat + 1) =
            { s with seqIdx := BitVec.ofNat 3 (s.seqIdx.toNat + 1) }.pollBlockFrom s.locAddr.toNat := if_pos h6
        exact e ▸ hstage.pollBlockFrom hcap hbud _ le_rfl
      · have hn : (BitVec.ofNat 3 (s.seqIdx.toNat + 1)).toNat = s.seqIdx.toNat + 1 := toNat_ofNat_of_lt (by omega)
        rw [State.cycleSent_of_not_last (k := .erase) h6]
        exact .within s.fsm _ s.att s.cur s.todo ⟨hlo, hend, .inl ⟨hf, ht, by simp only [hn]; omega⟩⟩
  · cases ha with
    | cycle k ht' _ => simp [ht] at ht'
    | read r _ =>
      by_cases hr : s.cfg.readsErased r = true
      · have e : s.readDone r = { s with seqIdx := s.seqIdx }.pollBlockFrom (s.cur.toNat + 1) := by
          simp [State.readDone, hf, hr]
        exact e ▸ hstage.pollBlockFrom hcap hbud _ (by omega)
      · have e : s.readDone r = s.pollMissed := by simp [State.readDone, hf, hr]
        obtain ⟨e', hatt'⟩ := State.pollMissed_of_busy hatt (e ▸ hb)
        rw [e, e']
        exact .within s.fsm s.seqIdx _ s.cur s.todo ⟨hlo, hend, .inr ⟨hf, ht, h4, hge, hcur, hatt'⟩⟩

/-! ### Inside `ProgramBody` (43_flash_programming.md R145) -/

theorem State.startProgram_programStage {a : Word} (v : Byte) (ha : a.toNat < s.cfg.capacity) :
    (s.startProgram a v).ProgramStage :=
  ⟨ha, .inl ⟨rfl, rfl, by simp⟩⟩

/-- The `Send`s of a `ProgramBody` leave it in its next place, or end it at its poll. -/
inductive State.ProgramStep (s : State) : State → Prop where
  | within (f : Fsm) (q : BitVec 3) (a p : Word) (d : Todo) :
      { s with fsm := f, seqIdx := q, att := a, cur := p, todo := d }.ProgramStage →
      ProgramStep s { s with fsm := f, seqIdx := q, att := a, cur := p, todo := d }
  | ended : s.fsm = .programPoll → ProgramStep s s.byteDone

theorem State.ProgramStage.advance (hbud : 1 ≤ s.aBudget.toNat) (h : s.ProgramStage)
    (ha : s.Advances t) (hb : t.busy = true) : s.ProgramStep t := by
  obtain ⟨hlo, ⟨hf, ht, hlt⟩ | ⟨hf, ht, hcur, hatt⟩⟩ := h
  · cases ha with
    | read r ht' => simp [ht] at ht'
    | cycle k ht' _ =>
      obtain rfl : k = .program := by simpa [ht] using ht'.symm
      by_cases h4 : s.seqIdx.toNat + 1 = 4
      · have e : s.cycleSent .program (s.seqIdx.toNat + 1) =
            { s with
              fsm := .programPoll, seqIdx := BitVec.ofNat 3 (s.seqIdx.toNat + 1), att := 0, cur := s.locAddr
              todo := .read } := if_pos h4
        rw [e]
        exact .within _ _ _ _ _ ⟨hlo, .inr ⟨rfl, rfl, rfl, hbud⟩⟩
      · have hn : (BitVec.ofNat 3 (s.seqIdx.toNat + 1)).toNat = s.seqIdx.toNat + 1 := toNat_ofNat_of_lt (by omega)
        rw [State.cycleSent_of_not_last (k := .program) h4]
        exact .within s.fsm _ s.att s.cur s.todo ⟨hlo, .inl ⟨hf, ht, by simp only [hn]; omega⟩⟩
  · cases ha with
    | cycle k ht' _ => simp [ht] at ht'
    | read r _ =>
      by_cases hr : r.r0 = s.locVal
      · have e : s.readDone r = s.byteDone := by simp [State.readDone, hf, hr]
        exact e ▸ .ended hf
      · have e : s.readDone r = s.pollMissed := by simp [State.readDone, hf, hr]
        obtain ⟨e', hatt'⟩ := State.pollMissed_of_busy hatt (e ▸ hb)
        rw [e, e']
        exact .within s.fsm s.seqIdx _ s.cur s.todo ⟨hlo, .inr ⟨hf, ht, hcur, hatt'⟩⟩

/-! ### IDENTIFY (42_identification.md R130) -/

theorem State.InIdentify.advance (hcfg : s.cfg.WF) (h : s.InIdentify) (ha : s.Advances t) (hb : t.busy = true) :
    t.InIdentify := by
  obtain ⟨-, -, -, ⟨hpos, hsix⟩, -⟩ := hcfg
  obtain ⟨hd, ho, hf, ⟨ht, hlt⟩ | ⟨ht, -⟩ | ⟨ht, hlt⟩ | ⟨ht, -⟩⟩ := h
  · cases ha with
    | read r ht' => simp [ht] at ht'
    | cycle k ht' _ =>
      obtain rfl : k = .ident := by simpa [ht] using ht'.symm
      by_cases h3 : s.seqIdx.toNat + 1 = 3
      · have e : s.cycleSent .ident (s.seqIdx.toNat + 1) =
            { s with seqIdx := BitVec.ofNat 3 (s.seqIdx.toNat + 1) }.toRead s.cfg.idReadAddr := if_pos h3
        rw [e]
        exact ⟨hd, ho, hf, .inr (.inl ⟨rfl, rfl⟩)⟩
      · have hn : (BitVec.ofNat 3 (s.seqIdx.toNat + 1)).toNat = s.seqIdx.toNat + 1 := toNat_ofNat_of_lt (by omega)
        rw [State.cycleSent_of_not_last (k := .ident) h3]
        exact ⟨hd, ho, hf, .inl ⟨ht, by simp only [hn]; omega⟩⟩
  · cases ha with
    | cycle k ht' _ => simp [ht] at ht'
    | read r _ =>
      have e : s.readDone r = s.idRead r := by simp [State.readDone, hf]
      rw [e]
      exact ⟨hd, ho, hf, .inr (.inr (.inl ⟨rfl, hpos⟩))⟩
  · cases ha with
    | read r ht' => simp [ht] at ht'
    | cycle k ht' _ =>
      obtain rfl : k = .reset := by simpa [ht] using ht'.symm
      by_cases hl : s.seqIdx.toNat + 1 = s.cfg.resetSeq.length
      · by_cases hs : s.cfg.isSupported s.locId = true
        · have e : s.cycleSent .reset (s.seqIdx.toNat + 1) =
              { s with seqIdx := BitVec.ofNat 3 (s.seqIdx.toNat + 1) }.toCompletion := (if_pos hl).trans (if_pos hs)
          rw [e]
          exact ⟨hd, ho, hf, .inr (.inr (.inr ⟨rfl, hs⟩))⟩
        · have e : s.cycleSent .reset (s.seqIdx.toNat + 1) =
              { s with seqIdx := BitVec.ofNat 3 (s.seqIdx.toNat + 1) }.raise .unsupportedChip s.locId :=
            (if_pos hl).trans (if_neg hs)
          simp [e] at hb
      · have hn : (BitVec.ofNat 3 (s.seqIdx.toNat + 1)).toNat = s.seqIdx.toNat + 1 := toNat_ofNat_of_lt (by omega)
        rw [State.cycleSent_of_not_last (k := .reset) hl]
        exact ⟨hd, ho, hf, .inr (.inr (.inl ⟨ht, by simp only [hn]; omega⟩))⟩
  · exact absurd ht ha.todo_ne_complete

/-! ### ERASE_BLOCK (43_flash_programming.md R150) -/

theorem State.InEraseBlock.advance (hcfg : s.cfg.WF) (h : s.InEraseBlock) (ha : s.Advances t) (hb : t.busy = true) :
    t.InEraseBlock := by
  obtain ⟨ho, haddr, hwin, hbud, hla, hll, hst | ⟨-, ht⟩ | ⟨-, ht⟩⟩ := h
  · cases hst.advance (capacity_le_of_wf hcfg) hbud ha hb with
    | within f q a p d hst' => exact ⟨ho, haddr, hwin, hbud, hla, hll, .inl hst'⟩
    | ended q hf =>
      rw [State.blockDone_of_eraseBlock (s := { s with seqIdx := q }) ho]
      exact ⟨ho, haddr, hwin, hbud, hla, hll, .inr (hf.imp (⟨·, rfl⟩) (⟨·, rfl⟩))⟩
  all_goals exact absurd ht ha.todo_ne_complete

/-! ### The blocks of the erase plan (43_flash_programming.md R146) -/

/-- Block `i` of a plan behind `doneBytes` bytes begins inside the flash window. -/
theorem State.eraseChipBlock_stages (hcfg : s.cfg.WF) {i n : Nat} (hi : s.cfg.eraseChipPlan[i]? = some n)
    (hdone : s.doneBytes.toNat = (s.cfg.eraseChipPlan.take i).sum)
    (hwin : s.planStart.toNat + s.cfg.planTotal ≤ s.cfg.capacity) (after : State → State) :
    (s.eraseChipBlock i after).PlanStage s.planStart.toNat ∧ (s.eraseChipBlock i after).EraseStage := by
  obtain ⟨hn, hi24, -, htot⟩ := plan_block_of_wf hcfg hi
  have hcap := capacity_le_of_wf hcfg
  have hiw : (BitVec.ofNat 32 i).toNat = i := toNat_ofNat_of_lt (by omega)
  have hnw : (BitVec.ofNat 32 n).toNat = n := toNat_ofNat_of_lt (by omega)
  have haw : (BitVec.ofNat 32 (s.planStart.toNat + s.doneBytes.toNat)).toNat = s.planStart.toNat + s.doneBytes.toNat :=
    toNat_ofNat_of_lt (by omega)
  rw [State.eraseChipBlock_of_some hi]
  refine ⟨⟨?_, ?_, haw⟩, State.startErase_eraseStage hcap ?_ ?_⟩
  · simp [hiw, hnw, hi]
  · simp [hiw, hdone]
  · simp only; omega
  · simp only; omega

/-- The end of a plan block counts its bytes and reports them. -/
def State.countPlanBlock (s : State) : State :=
  { s with doneBytes := s.doneBytes + s.locLen }.emit (s.doneBytes + s.locLen).toNat s.cfg.planTotal .erase

theorem State.planBlockDone_eq (after : State → State) :
    s.planBlockDone after = s.countPlanBlock.eraseChipBlock (s.blkIdx.toNat + 1) after := rfl

theorem State.PlanStage.countPlanBlock_doneBytes {start : Nat} (hcfg : s.cfg.WF) (h : s.PlanStage start) :
    s.countPlanBlock.doneBytes.toNat = (s.cfg.eraseChipPlan.take (s.blkIdx.toNat + 1)).sum := by
  obtain ⟨hi, hdone, -⟩ := h
  obtain ⟨-, -, hsucc, htot⟩ := plan_block_of_wf hcfg hi
  have hcap := capacity_le_of_wf hcfg
  have hplan := planTotal_le_of_wf hcfg
  rw [hsucc, ← hdone]
  exact BitVec.toNat_add_of_lt (by omega)

/-! ### ERASE_CHIP (43_flash_programming.md R151) -/

theorem State.eraseChipBlock_inEraseChip (hcfg : s.cfg.WF) (ho : s.outer = .eraseChip)
    (haddr : s.aAddr.toNat < s.cfg.capacity) (hwin : s.aAddr.toNat + s.cfg.planTotal ≤ s.cfg.capacity)
    (hbud : 1 ≤ s.aBudget.toNat) {i : Nat} (hdone : s.doneBytes.toNat = (s.cfg.eraseChipPlan.take i).sum)
    (hlast : s.cfg.eraseChipPlan[i]? = none → s.fsm = .erasing ∨ s.fsm = .erasePoll) :
    (s.eraseChipBlock i State.toCompletion).InEraseChip := by
  have hstart : s.planStart = s.aAddr := by simp [State.planStart, ho]
  cases hi : s.cfg.eraseChipPlan[i]? with
  | none =>
    rw [State.eraseChipBlock_of_none hi]
    exact ⟨ho, haddr, hwin, hbud, .inr ((hlast hi).imp (⟨·, rfl⟩) (⟨·, rfl⟩))⟩
  | some n =>
    have hst := State.eraseChipBlock_stages hcfg hi hdone (hstart ▸ hwin) State.toCompletion
    rw [State.eraseChipBlock_of_some hi, hstart] at hst ⊢
    exact ⟨ho, haddr, hwin, hbud, .inl hst⟩

theorem State.InEraseChip.advance (hcfg : s.cfg.WF) (h : s.InEraseChip) (ha : s.Advances t) (hb : t.busy = true) :
    t.InEraseChip := by
  obtain ⟨ho, haddr, hwin, hbud, ⟨hp, hst⟩ | ⟨-, ht⟩ | ⟨-, ht⟩⟩ := h
  · cases hst.advance (capacity_le_of_wf hcfg) hbud ha hb with
    | within f q a p d hst' => exact ⟨ho, haddr, hwin, hbud, .inl ⟨hp, hst'⟩⟩
    | ended q hf =>
      rw [State.blockDone_of_eraseChip (s := { s with seqIdx := q }) ho, State.planBlockDone_eq]
      exact State.eraseChipBlock_inEraseChip (s := { s with seqIdx := q }.countPlanBlock) hcfg ho haddr hwin hbud
        (hp.countPlanBlock_doneBytes hcfg) fun _ => hf
  all_goals exact absurd ht ha.todo_ne_complete

/-! ### PROGRAM_BYTE (43_flash_programming.md R152) -/

theorem State.byteDone_of_programByte (h : s.outer = .none) : s.byteDone = s.toCompletion := by
  simp [State.byteDone, h]

theorem State.byteDone_of_writeFlash (h : s.outer = .writeFlash) :
    s.byteDone = s.programByteAt (s.byteIdx.toNat + 1) := by
  simp [State.byteDone, h]

theorem State.InProgramByte.advance (h : s.InProgramByte) (ha : s.Advances t) (hb : t.busy = true) :
    t.InProgramByte := by
  obtain ⟨ho, haddr, hbud, hla, hlv, hst | ⟨-, ht⟩⟩ := h
  · cases hst.advance hbud ha hb with
    | within f q a p d hst' => exact ⟨ho, haddr, hbud, hla, hlv, .inl hst'⟩
    | ended hf =>
      rw [State.byteDone_of_programByte ho]
      exact ⟨ho, haddr, hbud, hla, hlv, .inr ⟨hf, rfl⟩⟩
  · exact absurd ht ha.todo_ne_complete

/-! ### READ_FLASH (43_flash_programming.md R153) -/

theorem State.InReadFlash.advance (hcfg : s.cfg.WF) (h : s.InReadFlash) (ha : s.Advances t) : t.InReadFlash := by
  have hcap := capacity_le_of_wf hcfg
  obtain ⟨ho, hwin, hf, hout, ⟨ht, hlt, hcur⟩ | ⟨ht, -⟩⟩ := h
  · cases ha with
    | cycle k ht' _ => simp [ht] at ht'
    | read r _ =>
      have e : s.readDone r = s.wordRead r := by simp [State.readDone, hf]
      have hl : s.aAddr.toNat + s.aLen.toNat ≤ s.cfg.capacity := hwin
      have hidx : (s.byteIdx + 4).toNat = s.byteIdx.toNat + 4 := BitVec.toNat_add_of_lt (by simp; omega)
      have hout' : (s.out ++ (s.cfg.rawBytes r).take (s.aLen.toNat - s.byteIdx.toNat)).length =
          min (s.byteIdx + 4).toNat s.aLen.toNat := by
        simp only [List.length_append, List.length_take, Config.rawBytes, List.length_cons, List.length_nil, hout, hidx]
        omega
      rw [e]
      unfold State.wordRead
      dsimp only
      split
      next hmore => exact ⟨ho, hwin, hf, hout', .inl ⟨rfl, by rw [← hidx] at hmore; exact hmore, rfl⟩⟩
      next hdone =>
        rw [← hidx, Nat.not_lt] at hdone
        exact ⟨ho, hwin, hf, hout', .inr ⟨rfl, hdone⟩⟩
  · exact absurd ht ha.todo_ne_complete

/-! ### WRITE_FLASH (43_flash_programming.md R154) -/

/-- The operands WRITE_FLASH was accepted with, the same in all its parts. -/
def State.WriteOperands (s : State) : Prop :=
  s.outer = .writeFlash ∧ s.windowEnd ≤ s.cfg.capacity ∧ 1 ≤ s.aBudget.toNat ∧ s.aData.length = s.aLen.toNat ∧
  0 < s.aLen.toNat

/-- A byte of the payload begins inside the window; behind the last one only the completion is left. -/
theorem State.programByteAt_inWriteFlash (hcfg : s.cfg.WF) (h : s.WriteOperands) {i : Nat}
    (hi : i < s.aData.length ∨ s.fsm = .programPoll) : (s.programByteAt i).InWriteFlash := by
  obtain ⟨ho, hwin, hbud, hlen, hpos⟩ := h
  cases hd : s.aData[i]? with
  | none =>
    have hf : s.fsm = .programPoll := hi.resolve_left (by simpa using hd)
    rw [State.programByteAt_of_none hd]
    exact ⟨ho, hwin, hbud, hlen, hpos, .inr (.inr (.inr ⟨hf, rfl⟩))⟩
  | some d =>
    have hcap := capacity_le_of_wf hcfg
    have hlt : i < s.aLen.toNat := hlen ▸ (List.getElem?_eq_some_iff.mp hd).1
    have hw : s.aAddr.toNat + s.aLen.toNat ≤ s.cfg.capacity := hwin
    have hiw : (BitVec.ofNat 32 i).toNat = i := toNat_ofNat_of_lt (by omega)
    have haw : (s.aAddr + BitVec.ofNat 32 i).toNat = s.aAddr.toNat + i := by
      rw [BitVec.toNat_add_of_lt (by omega), hiw]
    rw [State.programByteAt_of_some hd]
    refine ⟨ho, hwin, hbud, hlen, hpos, .inr (.inr (.inl ⟨hiw.trans_lt hlt, rfl, ?_, ?_⟩))⟩
    · simp [hiw, hd]
    · exact State.startProgram_programStage _ (haw.trans_lt (by simp only; omega))

theorem State.eraseChipBlock_inWriteFlash (hcfg : s.cfg.WF) (h : s.WriteOperands) (hwhole : s.aWhole = true) {i : Nat}
    (hdone : s.doneBytes.toNat = (s.cfg.eraseChipPlan.take i).sum) :
    (s.eraseChipBlock i (State.programByteAt 0)).InWriteFlash := by
  cases hi : s.cfg.eraseChipPlan[i]? with
  | none =>
    rw [State.eraseChipBlock_of_none hi]
    obtain ⟨-, -, -, hlen, hpos⟩ := id h
    exact State.programByteAt_inWriteFlash hcfg h (.inl (hlen ▸ hpos))
  | some n =>
    obtain ⟨ho, hwin, hbud, hlen, hpos⟩ := h
    have hstart : s.planStart.toNat = 0 := by simp [State.planStart, ho]
    have hst := State.eraseChipBlock_stages hcfg hi hdone
      (by simpa [hstart] using planTotal_le_of_wf hcfg) (State.programByteAt 0)
    rw [hstart, State.eraseChipBlock_of_some hi] at hst
    rw [State.eraseChipBlock_of_some hi]
    exact ⟨ho, hwin, hbud, hlen, hpos, .inl ⟨hwhole, hst⟩⟩

theorem State.minimalEraseBlock_inWriteFlash (hcfg : s.cfg.WF) (h : s.WriteOperands) (hwhole : s.aWhole = false)
    (i : Nat) : (s.minimalEraseBlock i).InWriteFlash := by
  obtain ⟨ho, hwin, hbud, hlen, hpos⟩ := id h
  unfold State.minimalEraseBlock
  dsimp only
  split
  next hlt =>
    have hcap := capacity_le_of_wf hcfg
    obtain ⟨-, ⟨-, hb4, -, hdvd⟩, -⟩ := hcfg
    have hblock : s.minimalBlock i = (s.aAddr.toNat / s.cfg.eraseBlockSize + i) * s.cfg.eraseBlockSize := by
      simp only [State.minimalBlock]; ring
    have hfits : s.minimalBlock i + s.cfg.eraseBlockSize ≤ s.cfg.capacity :=
      hblock ▸ block_fits hdvd (hblock ▸ hlt.trans_le hwin)
    have hi : i ≤ s.minimalBlock i := by
      calc i ≤ i * s.cfg.eraseBlockSize := Nat.le_mul_of_pos_right i (by omega)
        _ ≤ s.minimalBlock i := Nat.le_add_left _ _
    have hiw : (BitVec.ofNat 32 i).toNat = i := toNat_ofNat_of_lt (by omega)
    have haw : (BitVec.ofNat 32 (s.minimalBlock i)).toNat = s.minimalBlock i := toNat_ofNat_of_lt (by omega)
    have hbw : (BitVec.ofNat 32 s.cfg.eraseBlockSize).toNat = s.cfg.eraseBlockSize := toNat_ofNat_of_lt (by omega)
    refine ⟨ho, hwin, hbud, hlen, hpos, .inr (.inl ⟨hwhole, ?_, haw.trans_lt hlt, hbw, ?_⟩)⟩
    · simp only [State.startErase_locAddr, State.startErase_blkIdx, haw, hiw]; rfl
    · exact State.startErase_eraseStage hcap (by simp only; omega) hfits
  next =>
    exact State.programByteAt_inWriteFlash (s := { s with blkIdx := BitVec.ofNat 32 i }) hcfg h (.inl (hlen ▸ hpos))

theorem State.InWriteFlash.advance (hcfg : s.cfg.WF) (h : s.InWriteFlash) (ha : s.Advances t) (hb : t.busy = true) :
    t.InWriteFlash := by
  have hcap := capacity_le_of_wf hcfg
  obtain ⟨ho, hwin, hbud, hlen, hpos, hparts⟩ := h
  have hop : s.WriteOperands := ⟨ho, hwin, hbud, hlen, hpos⟩
  rcases hparts with ⟨hwhole, hp, hst⟩ | ⟨hwhole, hblk, hbw, hll, hst⟩ | ⟨hidx, hla, hlv, hst⟩ | ⟨-, ht⟩
  · cases hst.advance hcap hbud ha hb with
    | within f q a p d hst' => exact ⟨ho, hwin, hbud, hlen, hpos, .inl ⟨hwhole, hp, hst'⟩⟩
    | ended q _ =>
      rw [State.blockDone_of_whole (s := { s with seqIdx := q }) ho hwhole, State.planBlockDone_eq]
      exact State.eraseChipBlock_inWriteFlash (s := { s with seqIdx := q }.countPlanBlock) hcfg hop hwhole
        (hp.countPlanBlock_doneBytes hcfg)
  · cases hst.advance hcap hbud ha hb with
    | within f q a p d hst' => exact ⟨ho, hwin, hbud, hlen, hpos, .inr (.inl ⟨hwhole, hblk, hbw, hll, hst'⟩)⟩
    | ended q _ =>
      rw [State.blockDone_of_minimal (s := { s with seqIdx := q }) ho hwhole]
      exact State.minimalEraseBlock_inWriteFlash (s := { s with seqIdx := q }) hcfg hop hwhole _
  · cases hst.advance hbud ha hb with
    | within f q a p d hst' => exact ⟨ho, hwin, hbud, hlen, hpos, .inr (.inr (.inl ⟨hidx, hla, hlv, hst'⟩))⟩
    | ended hf =>
      rw [State.byteDone_of_writeFlash ho]
      exact State.programByteAt_inWriteFlash hcfg hop (.inr hf)
  · exact absurd ht ha.todo_ne_complete

/-! ### Every operation -/

/-- A `Send` that does not abort leaves the operation in `OP` in progress. -/
theorem State.InOperation.advance (hcfg : s.cfg.WF) (h : s.InOperation) (ha : s.Advances t) (hb : t.busy = true) :
    t.InOperation := by
  obtain ⟨hop, hdia⟩ : t.op = s.op ∧ t.dialect = s.dialect := by
    rcases ha.cases_raise with ⟨w, e, v, hk, -, rfl⟩ | hk <;> exact ⟨hk.op, hk.dialect⟩
  unfold State.InOperation
  rw [hop, hdia]
  rcases h with ⟨h6, h⟩ | ⟨hd, ⟨h7, h⟩ | ⟨h8, h⟩ | ⟨h9, h⟩ | ⟨hA, h⟩ | ⟨hB, h⟩⟩
  · exact .inl ⟨h6, h.advance hcfg ha hb⟩
  · exact .inr ⟨hd, .inl ⟨h7, h.advance hcfg ha hb⟩⟩
  · exact .inr ⟨hd, .inr (.inl ⟨h8, h.advance hcfg ha hb⟩)⟩
  · exact .inr ⟨hd, .inr (.inr (.inl ⟨h9, h.advance ha hb⟩))⟩
  · exact .inr ⟨hd, .inr (.inr (.inr (.inl ⟨hA, h.advance hcfg ha⟩)))⟩
  · exact .inr ⟨hd, .inr (.inr (.inr (.inr ⟨hB, h.advance hcfg ha hb⟩)))⟩

end Sys2Proof.Machine

namespace Sys2Proof

/-! ### Request words (30_encoding.md R90) -/

/-- A request word is its reserved bits, `WHOLE` and `OPSEL`. -/
theorem request_word_of_fields (w : Word) :
    w = w.extractLsb' 5 27 ++ BitVec.ofBool (w.getLsbD 4) ++ BitVec.ofNat 4 (w.extractLsb' 0 4).toNat := by
  rw [BitVec.ofNat_toNat, BitVec.setWidth_eq]
  apply BitVec.eq_of_getLsbD_eq
  intro i hi
  simp only [BitVec.getLsbD_append, BitVec.getLsbD_extractLsb', BitVec.getLsbD_ofBool]
  grind

/-- Each instruction has one request word (R90). -/
theorem encode_of_decodeRequest (cfg : Config) {w : Word} {i : Instr} (h : decodeRequest w = .ok i) :
    encode cfg i = .request w := by
  have hw := request_word_of_fields w
  unfold decodeRequest at h
  split at h
  · cases h
  next hres =>
    rw [not_not.mp hres] at hw
    split at h
    next hbit =>
      split at h
      next hsel =>
        cases h
        rw [hbit, hsel] at hw
        rw [hw]; rfl
      · cases h
    next hbit =>
      rw [Bool.eq_false_of_not_eq_true hbit] at hw
      split at h
      case h_13 => cases h
      all_goals
        rename_i hsel
        cases h
        rw [hsel] at hw
        rw [hw]; rfl

end Sys2Proof

namespace Sys2Proof.Machine

variable {s t u : State}

/-! ### What an accepted request can do (10_state.md R33, 60_exceptions.md R181) -/

/-- The codes the FCB raises: "No FCB rule produces `ERR` = 2, 3, 6" (R179). -/
def raisedErrors : List ErrCode :=
  [.unsupportedChip, .timeout, .transportError, .unimplemented, .outOfRange, .invalidArgument, .notReady, .illegalOp]

/-- `u` has latched the request `i`, and `t` is what its acceptance leaves. -/
inductive Accepted (u : State) : Instr → State → Prop where
  | rejected (i : Instr) (e : ErrCode) (v : Word) : e ∈ raisedErrors → Accepted u i (u.raise e v)
  | completed (i : Instr) (o d : List Byte) (r0 r1 : Word) :
      Accepted u i ({ u with out := o, dataOut := d }.complete r0 r1)
  | emptyRead : Accepted u .readFlash ({ u with out := [], byteIdx := 0, dataOut := [] }.finish 0 0)
  | shutdown : Accepted u .shutdown ({ u with dialect := .none, chipId := 0 }.complete 0 0)
  | identify : u.op = 0x6 → Accepted u .identify
      { u with busy := true, dialect := .none, chipId := 0, fsm := .ident, seqIdx := 0, todo := .cycle .ident }
  | began (i : Instr) (o : Outer) (t : State) : { u with busy := true, outer := o }.SequencerOnly t →
      (u.cfg.WF → u.outer = .none → t.InOperation) → Accepted u i t

theorem Accepted.guarded {cs : List Check} {rule : State → State} {i : Instr} (hcs : ∀ c ∈ cs, c.error ∈ raisedErrors)
    (hrule : (∀ c ∈ cs, c.failed = false) → Accepted u i (rule u)) : Accepted u i (u.guarded cs rule) := by
  rcases u.guarded_cases cs rule with ⟨c, hc, -, e⟩ | ⟨hpass, e⟩ <;> rw [e]
  · exact .rejected i _ _ (hcs c hc)
  · exact hrule hpass

/-- Checks 2 and 3 leave TYPEA only (60_exceptions.md R174, R178). -/
theorem State.dialect_of_checks (hr : u.readyCheck.failed = false) (hd : u.dialectCheck.failed = false) :
    u.dialect = .typeA := by
  have h1 : u.dialect ≠ .none := fun h => by simp [State.readyCheck_fails.mpr h] at hr
  have h2 : u.dialect ≠ .typeB := fun h => by simp [State.dialectCheck_fails.mpr h] at hd
  cases h : u.dialect <;> simp_all

/-- Check 4's first condition leaves a budget of at least one poll (60_exceptions.md R177). -/
theorem State.budget_of_check (h : u.budgetCheck.failed = false) : 1 ≤ u.aBudget.toNat := by
  have h0 : u.aBudget ≠ 0 := fun h0 => by simp [State.budgetCheck_fails.mpr h0] at h
  have : u.aBudget.toNat ≠ 0 := fun h' => h0 (BitVec.eq_of_toNat_eq h')
  omega

theorem State.range_of_check {b : Bool} (h : (u.rangeCheck b).failed = false) : b = true := by
  simpa [State.rangeCheck] using h

theorem State.range_of_check_and {p q : Prop} [Decidable p] [Decidable q]
    (h : (u.rangeCheck (decide p && decide q)).failed = false) : p ∧ q := by
  simpa using State.range_of_check h

theorem State.payload_of_check (h : u.payloadCheck.failed = false) : u.aData.length = u.aLen.toNat := by
  simpa [State.payloadCheck] using h

/-- A flash operation's checks 2 to 5: an error of theirs, or the rule on a TYPEA chip (60_exceptions.md R181). -/
theorem Accepted.flash_guarded {cs : List Check} {rule : State → State} {i : Instr}
    (hcs : ∀ c ∈ cs, c.error ∈ raisedErrors)
    (hrule : u.dialect = .typeA → (∀ c ∈ cs, c.failed = false) → Accepted u i (rule u)) :
    Accepted u i (u.guarded (u.readyCheck :: u.dialectCheck :: cs) rule) := by
  refine .guarded ?_ fun hpass => ?_
  · simp only [List.forall_mem_cons]
    exact ⟨by simp [State.readyCheck, raisedErrors], by simp [State.dialectCheck, raisedErrors], hcs⟩
  · simp only [List.forall_mem_cons] at hpass
    obtain ⟨hr, hd, hpass⟩ := hpass
    exact hrule (State.dialect_of_checks hr hd) hpass

/-- A flash operation that begins stands in its operation's part of the invariant. -/
theorem Accepted.flash_began {i : Instr} (o : Outer) (hd : u.dialect = .typeA)
    (hk : { u with busy := true, outer := o }.SequencerOnly t)
    (hin : u.cfg.WF → u.outer = .none →
      (u.op = 0x7 ∧ t.InEraseBlock) ∨ (u.op = 0x8 ∧ t.InEraseChip) ∨ (u.op = 0x9 ∧ t.InProgramByte) ∨
      (u.op = 0xA ∧ t.InReadFlash) ∨ (u.op = 0xB ∧ t.InWriteFlash)) : Accepted u i t := by
  refine .began i o t hk fun hcfg ho => .inr ⟨hk.dialect.trans hd, ?_⟩
  rw [hk.op]
  exact hin hcfg ho

theorem execEraseBlock_accepted (hb : s.busy = false) :
    ∃ t, exec .eraseBlock s = .next t ∧ Accepted (s.latch 0x00000007) .eraseBlock t := by
  refine ⟨_, rfl, ?_⟩
  rw [State.request_of_idle _ _ hb]
  generalize hu : s.latch 0x00000007 = u
  have hop : u.op = 0x7 := hu ▸ rfl
  refine .flash_guarded (by simp [State.budgetCheck, State.rangeCheck, raisedErrors]) fun hd hpass => ?_
  simp only [List.forall_mem_cons] at hpass
  obtain ⟨hbud, hwin, -⟩ := hpass
  obtain ⟨haddr, hwin⟩ := State.range_of_check_and hwin
  refine .flash_began u.outer hd (by constructor <;> rfl) fun hcfg ho => .inl ⟨hop, ?_⟩
  refine ⟨ho, haddr, hwin, State.budget_of_check hbud, ?_, ?_, .inl ?_⟩
  · simp [State.begin]
  · simp [State.begin]
  · exact State.startErase_eraseStage (s := { u with busy := true }) (capacity_le_of_wf hcfg) haddr hwin

theorem execEraseChip_accepted (hb : s.busy = false) :
    ∃ t, exec .eraseChip s = .next t ∧ Accepted (s.latch 0x00000008) .eraseChip t := by
  refine ⟨_, rfl, ?_⟩
  rw [State.request_of_idle _ _ hb]
  generalize hu : s.latch 0x00000008 = u
  have hop : u.op = 0x8 := hu ▸ rfl
  refine .flash_guarded (by simp [State.budgetCheck, State.rangeCheck, raisedErrors]) fun hd hpass => ?_
  simp only [List.forall_mem_cons] at hpass
  obtain ⟨hbud, hwin, -⟩ := hpass
  obtain ⟨haddr, hwin⟩ := State.range_of_check_and hwin
  have hk := State.eraseChipBlock_sequencerOnly { u with busy := true, outer := .eraseChip, doneBytes := 0 } 0 _
    State.toCompletion_sequencerOnly
  refine .flash_began .eraseChip hd (.trans (by constructor <;> rfl) hk) fun hcfg ho => .inr (.inl ⟨hop, ?_⟩)
  obtain ⟨n, hn⟩ := plan_head_of_wf hcfg
  exact State.eraseChipBlock_inEraseChip (s := { u with busy := true, outer := .eraseChip, doneBytes := 0 })
    hcfg rfl haddr hwin (State.budget_of_check hbud) (by simp) (by simp [hn])

theorem execProgramByte_accepted (hb : s.busy = false) :
    ∃ t, exec .programByte s = .next t ∧ Accepted (s.latch 0x00000009) .programByte t := by
  refine ⟨_, rfl, ?_⟩
  rw [State.request_of_idle _ _ hb]
  generalize hu : s.latch 0x00000009 = u
  have hop : u.op = 0x9 := hu ▸ rfl
  refine .flash_guarded (by simp [State.budgetCheck, State.rangeCheck, raisedErrors]) fun hd hpass => ?_
  simp only [List.forall_mem_cons] at hpass
  obtain ⟨hbud, hwin, -⟩ := hpass
  have haddr : u.aAddr.toNat < u.cfg.capacity := of_decide_eq_true (State.range_of_check hwin)
  refine .flash_began u.outer hd (by constructor <;> rfl) fun hcfg ho => .inr (.inr (.inl ⟨hop, ?_⟩))
  exact ⟨ho, haddr, State.budget_of_check hbud, rfl, rfl,
    .inl (State.startProgram_programStage (s := { u with busy := true }) _ haddr)⟩

theorem execReadFlash_accepted (hb : s.busy = false) :
    ∃ t, exec .readFlash s = .next t ∧ Accepted (s.latch 0x0000000A) .readFlash t := by
  refine ⟨_, rfl, ?_⟩
  rw [State.request_of_idle _ _ hb]
  generalize hu : s.latch 0x0000000A = u
  have hop : u.op = 0xA := hu ▸ rfl
  refine .flash_guarded (by simp [State.rangeCheck, raisedErrors]) fun hd hpass => ?_
  simp only [List.forall_mem_cons] at hpass
  obtain ⟨hwin, -⟩ := hpass
  have hwin : u.windowEnd ≤ u.cfg.capacity := of_decide_eq_true (State.range_of_check hwin)
  split
  · exact .emptyRead
  next hlen =>
    refine .flash_began u.outer hd (by constructor <;> rfl) fun _ ho => .inr (.inr (.inr (.inl ⟨hop, ?_⟩)))
    have hpos : 0 < u.aLen.toNat := Nat.pos_of_ne_zero fun h => hlen (BitVec.eq_of_toNat_eq h)
    exact ⟨ho, hwin, rfl, (Nat.zero_min _).symm, .inl ⟨rfl, hpos, (BitVec.add_zero _).symm⟩⟩

theorem State.writeFlashRule_accepted {i : Instr} (hop : u.op = 0xB) : Accepted u i u.writeFlashRule := by
  refine .flash_guarded (by simp [State.budgetCheck, State.payloadCheck, State.rangeCheck, raisedErrors])
    fun hd hpass => ?_
  simp only [List.forall_mem_cons] at hpass
  obtain ⟨hbud, hpay, hwin, -⟩ := hpass
  have hwin : u.windowEnd ≤ u.cfg.capacity := of_decide_eq_true (State.range_of_check hwin)
  split
  · exact .completed i u.out u.dataOut 0 0
  next hlen =>
    have hpos : 0 < u.aLen.toNat := Nat.pos_of_ne_zero fun h => hlen (BitVec.eq_of_toNat_eq h)
    have hops : { u with busy := true, outer := .writeFlash }.WriteOperands :=
      ⟨rfl, hwin, State.budget_of_check hbud, State.payload_of_check hpay, hpos⟩
    unfold State.begin
    dsimp only
    split
    next hwhole =>
      have hk := State.eraseChipBlock_sequencerOnly { u with busy := true, outer := .writeFlash, doneBytes := 0 } 0 _
        fun v => v.programByteAt_sequencerOnly 0
      refine .flash_began .writeFlash hd (.trans (by constructor <;> rfl) hk) fun hcfg _ =>
        .inr (.inr (.inr (.inr ⟨hop, ?_⟩)))
      exact State.eraseChipBlock_inWriteFlash
        (s := { u with busy := true, outer := .writeFlash, doneBytes := 0 }) hcfg hops hwhole (by simp)
    next hwhole =>
      refine .flash_began .writeFlash hd (State.minimalEraseBlock_sequencerOnly _ 0) fun hcfg _ =>
        .inr (.inr (.inr (.inr ⟨hop, ?_⟩)))
      exact State.minimalEraseBlock_inWriteFlash
        (s := { u with busy := true, outer := .writeFlash }) hcfg hops (Bool.eq_false_of_not_eq_true hwhole) 0

/-- Everything an accepted legal request can do. -/
theorem exec_accepted {w : Word} {i : Instr} (hb : s.busy = false) (h : decodeRequest w = .ok i) :
    ∃ t, exec i s = .next t ∧ Accepted (s.latch w) i t := by
  have hw := encode_of_decodeRequest s.cfg h
  cases i <;> simp only [encode, Code.request.injEq, reduceCtorEq] at hw <;> subst hw
  case eraseBlock => exact execEraseBlock_accepted hb
  case eraseChip => exact execEraseChip_accepted hb
  case programByte => exact execProgramByte_accepted hb
  case readFlash => exact execReadFlash_accepted hb
  all_goals
    refine ⟨_, rfl, ?_⟩
    rw [State.request_of_idle _ _ hb]
  case writeFlash => exact State.writeFlashRule_accepted rfl
  case writeFlashWhole => exact State.writeFlashRule_accepted rfl
  case identify => exact .identify rfl
  case shutdown => exact .shutdown
  case buildFrameA3 =>
    exact .guarded (by simp [State.addressCheck, raisedErrors]) fun _ => .completed _ s.out [] _ _
  case encryptBuffer =>
    exact .guarded (by simp [State.payloadCheck, raisedErrors]) fun _ => .completed _ _ _ _ _
  all_goals exact .completed _ s.out [] _ _

/-- Everything a step of an idle FCB can do: it ends an illegal request, accepts a legal one, or keeps its state. -/
theorem fcbStep_of_idle_cases (hb : s.busy = false) (h : fcbStep s = .next t) :
    (∃ w, t = (s.latch w).raise .illegalOp w) ∨
    (∃ w i, s.held = some w ∧ encode s.cfg i = .request w ∧ Accepted (s.latch w) i t) ∨
    (s.held = none ∧ t = s) := by
  cases hw : s.held with
  | none =>
    rw [fcbStep_of_idle hb hw, Host.Outcome.next.injEq] at h
    exact .inr (.inr ⟨rfl, h.symm⟩)
  | some w =>
    cases hd : decodeRequest w with
    | error d =>
      rw [fcbStep_of_illegal hb hw hd, Host.Outcome.next.injEq] at h
      exact .inl ⟨w, h.symm⟩
    | ok i =>
      have hi : s.nextInstr = some i := by rw [nextInstr_of_held hb hw, hd]; rfl
      obtain ⟨t', he, hacc⟩ := exec_accepted hb hd
      rw [fcbStep_of_nextInstr hi, he, Host.Outcome.next.injEq] at h
      exact .inr (.inl ⟨w, i, rfl, encode_of_decodeRequest s.cfg hd, h ▸ hacc⟩)

/-! ### A sequencer at work keeps `FSM` and its next step -/

/-- While busy, `FSM` is not IDLE and the sequencer has a next step (10_state.md R34). -/
def State.Running (s : State) : Prop := s.busy = true → s.fsm ≠ .idle ∧ s.todo ≠ .idle

theorem State.raise_running (e : ErrCode) (v : Word) : (s.raise e v).Running := by simp [State.Running]

theorem State.toCompletion_running (h : s.Running) : s.toCompletion.Running := fun hb => ⟨(h hb).1, by simp⟩

theorem State.startErase_running (a l : Nat) : (s.startErase a l).Running := by simp [State.Running]

theorem State.programByteAt_running (h : s.Running) (i : Nat) : (s.programByteAt i).Running := by
  unfold State.programByteAt
  split
  · simp [State.Running]
  · exact s.toCompletion_running h

theorem State.eraseChipBlock_running (h : s.Running) (i : Nat) (after : State → State)
    (ha : ∀ u : State, u.Running → (after u).Running) : (s.eraseChipBlock i after).Running := by
  unfold State.eraseChipBlock
  split
  · exact State.startErase_running _ _
  · exact ha s h

theorem State.minimalEraseBlock_running (h : s.Running) (i : Nat) : (s.minimalEraseBlock i).Running := by
  unfold State.minimalEraseBlock
  dsimp only
  split
  · exact State.startErase_running _ _
  · exact State.programByteAt_running (s := { s with blkIdx := BitVec.ofNat 32 i }) h 0

theorem State.blockDone_running (h : s.Running) : s.blockDone.Running := by
  unfold State.blockDone
  split
  · exact s.toCompletion_running h
  · exact State.eraseChipBlock_running (s := s.countPlanBlock) h _ _ fun u => u.toCompletion_running
  · split
    · exact State.eraseChipBlock_running (s := s.countPlanBlock) h _ _ fun u hu => u.programByteAt_running hu 0
    · exact s.minimalEraseBlock_running h _

theorem State.pollBlockFrom_running (h : s.Running) (o : Nat) : (s.pollBlockFrom o).Running := by
  unfold State.pollBlockFrom
  split
  · simp [State.Running]
  · exact s.blockDone_running h

theorem State.byteDone_running (h : s.Running) : s.byteDone.Running := by
  unfold State.byteDone
  split
  · exact s.programByteAt_running h _
  · exact s.toCompletion_running h
  · exact s.toCompletion_running h

theorem State.pollMissed_running (h : s.Running) : s.pollMissed.Running := by
  rcases s.pollMissed_cases with ⟨-, e⟩ | ⟨-, e⟩ <;> rw [e]
  · exact State.raise_running _ _
  · exact h

theorem State.readDone_running (h : s.Running) (r : Reply) : (s.readDone r).Running := by
  unfold State.readDone
  split
  · exact fun hb => ⟨(h hb).1, by simp [State.idRead]⟩
  · split
    · exact s.pollBlockFrom_running h _
    · exact s.pollMissed_running h
  · split
    · exact s.byteDone_running h
    · exact s.pollMissed_running h
  · unfold State.wordRead
    dsimp only
    split
    · exact fun hb => ⟨(h hb).1, by simp⟩
    · exact State.toCompletion_running h
  all_goals exact h

theorem State.cycleSent_running (h : s.Running) (k : CycleKind) (n : Nat) : (s.cycleSent k n).Running := by
  have hq : { s with seqIdx := BitVec.ofNat 3 n }.Running := h
  unfold State.cycleSent
  dsimp only
  split
  · split
    · exact fun hb => ⟨(h hb).1, by simp⟩
    · exact hq
  · split
    · split
      · exact State.toCompletion_running hq
      · exact State.raise_running _ _
    · exact hq
  · split
    · exact State.pollBlockFrom_running hq _
    · exact hq
  · split
    · simp [State.Running]
    · exact hq

theorem State.Advances.running (ha : s.Advances t) (h : s.Running) : t.Running := by
  cases ha with
  | cycle k _ _ => exact s.cycleSent_running h k _
  | read r _ => exact s.readDone_running h r

theorem State.EraseStage.fsm_ne_idle (h : s.EraseStage) : s.fsm ≠ .idle := by
  rcases h.fsm_erasing with hf | hf <;> simp [hf]

theorem State.ProgramStage.fsm_ne_idle (h : s.ProgramStage) : s.fsm ≠ .idle := by
  obtain ⟨-, ⟨hf, -⟩ | ⟨hf, -⟩⟩ := h <;> simp [hf]

theorem State.Ending.fsm_ne_idle {f : Fsm} (h : s.Ending f) (hf : f ≠ .idle) : s.fsm ≠ .idle := by
  obtain ⟨rfl, -⟩ := h
  exact hf

/-- No operation in progress shows `FSM = IDLE` (10_state.md R34). -/
theorem State.InOperation.fsm_ne_idle (h : s.InOperation) : s.fsm ≠ .idle := by
  rcases h with ⟨-, -, -, hf, -⟩ | ⟨-, ⟨-, h⟩ | ⟨-, h⟩ | ⟨-, h⟩ | ⟨-, -, -, hf, -⟩ | ⟨-, h⟩⟩
  · simp [hf]
  · obtain ⟨-, -, -, -, -, -, h | h | h⟩ := h
    · exact h.fsm_ne_idle
    all_goals exact h.fsm_ne_idle (by simp)
  · obtain ⟨-, -, -, -, ⟨-, h⟩ | h | h⟩ := h
    · exact h.fsm_ne_idle
    all_goals exact h.fsm_ne_idle (by simp)
  · obtain ⟨-, -, -, -, -, h | h⟩ := h
    · exact h.fsm_ne_idle
    · exact h.fsm_ne_idle (by simp)
  · simp [hf]
  · obtain ⟨-, -, -, -, -, ⟨-, -, h⟩ | ⟨-, -, -, -, h⟩ | ⟨-, -, -, h⟩ | h⟩ := h
    · exact h.fsm_ne_idle
    · exact h.fsm_ne_idle
    · exact h.fsm_ne_idle
    · exact h.fsm_ne_idle (by simp)

theorem State.InOperation.running (h : s.InOperation) : s.Running := by
  refine fun _ => ⟨h.fsm_ne_idle, fun ht => ?_⟩
  rcases h.hasNextStep with h | h | ⟨k, h, -⟩ <;> simp [ht] at h

/-! ### What the host-visible registers promise -/

/-- The registers `HostInv` speaks of. -/
def State.promised (s : State) :=
  (s.busy, s.fsm, s.todo, s.outer, s.done, s.err, s.res0, s.res1, s.dataOut, s.errInfo, s.dialect, s.chipId)

theorem State.HostInv.congr (h : s.HostInv) (e : t.promised = s.promised) : t.HostInv := by
  simp only [State.promised, Prod.mk.injEq] at e
  obtain ⟨hb, hf, ht, ho, hd, he, h0, h1, hout, hi, hdia, hc⟩ := e
  constructor <;> simp only [hb, hf, ht, ho, hd, he, h0, h1, hout, hi, hdia, hc]
  · exact h.idle_iff
  · exact h.todo_iff
  · exact h.outer_busy
  · exact h.busy_cleared
  · exact h.no_result
  · exact h.info_ok
  · exact h.err_done
  · exact h.chip_none
  · exact h.err_raised

theorem State.HostInv.running (h : s.HostInv) : s.Running :=
  fun hb => ⟨fun hf => by simp [h.idle_iff.mpr hf] at hb, fun ht => by simp [h.todo_iff.mpr ht] at hb⟩

theorem State.HostInv.outer_of_idle (h : s.HostInv) (hb : s.busy = false) : s.outer = .none := by
  by_contra ho
  simp [h.outer_busy ho] at hb

theorem State.raise_hostInv {e : ErrCode} (v : Word) (he : e ∈ raisedErrors) (hc : s.dialect = .none → s.chipId = 0) :
    (s.raise e v).HostInv := by
  have hne : e ≠ .ok ∧ e ≠ .unsupportedRevision ∧ e ≠ .secureInitFailed ∧ e ≠ .payloadTooLarge := by
    revert e; decide
  obtain ⟨hok, hraised⟩ := hne
  constructor
  case chip_none => exact hc
  case err_raised => exact hraised
  all_goals simp [hok]

theorem State.complete_hostInv (r0 r1 : Word) (hf : s.fsm = .idle) (ho : s.outer = .none) (he : s.err = .ok)
    (hi : s.errInfo = 0) (hc : s.dialect = .none → s.chipId = 0) : (s.complete r0 r1).HostInv := by
  constructor
  case chip_none => exact hc
  all_goals simp [hf, ho, he, hi]

theorem State.finish_hostInv (r0 r1 : Word) (he : s.err = .ok) (hi : s.errInfo = 0)
    (hc : s.dialect = .none → s.chipId = 0) : (s.finish r0 r1).HostInv :=
  State.complete_hostInv (s := { s with outer := .none, fsm := .idle }) r0 r1 rfl rfl he hi hc

theorem State.Running.hostInv (h : s.Running) (hb : s.busy = true) (hd : s.done = false) (he : s.err = .ok)
    (hi : s.errInfo = 0) (h0 : s.res0 = 0) (h1 : s.res1 = 0) (hout : s.dataOut = [])
    (hc : s.dialect = .none → s.chipId = 0) : s.HostInv := by
  obtain ⟨hf, ht⟩ := h hb
  constructor
  case chip_none => exact hc
  all_goals simp [hb, hd, he, hi, h0, h1, hout, hf, ht]

/-- What a busy FCB's step leaves when it moves the sequencer only. -/
theorem State.HostInv.sequencerOnly (h : s.HostInv) (hb : s.busy = true) (hk : s.SequencerOnly t) (hr : t.Running) :
    t.HostInv := by
  obtain ⟨hd, he⟩ := h.busy_cleared hb
  obtain ⟨h0, h1, hout⟩ := h.no_result (.inl hb)
  exact hr.hostInv (hk.busy.trans hb) (hk.done.trans hd) (hk.err.trans he) (hk.errInfo.trans (h.info_ok he))
    (hk.res0.trans h0) (hk.res1.trans h1) (hk.dataOut.trans hout) (by rw [hk.dialect, hk.chipId]; exact h.chip_none)

theorem State.HostInv.sends (h : s.HostInv) (hb : s.busy = true) (hs : s.Sends t) : t.HostInv := by
  cases hs with
  | failed f n m a => exact State.raise_hostInv a (by simp [raisedErrors]) h.chip_none
  | went f n m t ha =>
    have hu : (s.send f n m).HostInv := h.congr rfl
    rcases ha.cases_raise with ⟨w, e, v, hk, he, rfl⟩ | hk
    · refine State.raise_hostInv v ?_ (by rw [hk.dialect, hk.chipId]; exact h.chip_none)
      simp only [List.mem_cons, List.not_mem_nil, or_false] at he
      rcases he with rfl | rfl <;> simp [raisedErrors]
    · exact hu.sequencerOnly hb hk (ha.running hu.running)

theorem dialectOf_ne_none (c : Config) (id : Word) : c.dialectOf id ≠ .none := by
  unfold Config.dialectOf
  split <;> simp

theorem State.HostInv.completion (h : s.HostInv) (hb : s.busy = true) : s.completion.HostInv := by
  obtain ⟨-, he⟩ := h.busy_cleared hb
  have hi := h.info_ok he
  unfold State.completion
  split
  · exact State.finish_hostInv _ _ he hi fun hd => absurd hd (dialectOf_ne_none _ _)
  all_goals exact State.finish_hostInv _ _ he hi h.chip_none

/-- An accepted request leaves the host-visible registers consistent. -/
theorem Accepted.hostInv {w : Word} {i : Instr} (ha : Accepted (s.latch w) i t) (hcfg : s.cfg.WF) (h : s.HostInv)
    (hb : s.busy = false) : t.HostInv := by
  have hf : s.fsm = .idle := h.idle_iff.mp hb
  have ho : s.outer = .none := h.outer_of_idle hb
  cases ha with
  | rejected _ e v he => exact State.raise_hostInv v he h.chip_none
  | completed _ o d r0 r1 => exact State.complete_hostInv _ _ hf ho rfl rfl h.chip_none
  | emptyRead => exact State.finish_hostInv _ _ rfl rfl h.chip_none
  | shutdown => exact State.complete_hostInv _ _ hf ho rfl rfl fun _ => rfl
  | identify hop =>
    exact State.Running.hostInv (fun _ => ⟨by simp, by simp⟩) rfl rfl rfl rfl rfl rfl rfl fun _ => rfl
  | began _ o t hk hin =>
    exact (hin hcfg ho).running.hostInv hk.busy hk.done hk.err hk.errInfo hk.res0 hk.res1 hk.dataOut
      (by rw [hk.dialect, hk.chipId]; exact h.chip_none)

theorem State.HostInv.fcbStep (h : s.HostInv) (hcfg : s.cfg.WF) (he : fcbStep s = .next t) : t.HostInv := by
  cases hb : s.busy with
  | true =>
    rcases fcbStep_of_busy hb he with ⟨la, -, hs⟩ | ⟨-, rfl⟩
    · have hla : { s with locAddr := la }.HostInv := h.congr rfl
      exact hla.sends hb hs
    · exact h.completion hb
  | false =>
    rcases fcbStep_of_idle_cases hb he with ⟨w, rfl⟩ | ⟨w, i, -, -, ha⟩ | ⟨-, rfl⟩
    · exact State.raise_hostInv w (by simp [raisedErrors]) h.chip_none
    · exact ha.hostInv hcfg h hb
    · exact h

/-! ### What a step leaves alone -/

theorem State.Advances.sequencer_keeps (ha : s.Advances t) :
    t.cfg = s.cfg ∧ t.host = s.host ∧ t.held = s.held ∧ t.dialect = s.dialect := by
  rcases ha.cases_raise with ⟨w, e, v, hk, -, rfl⟩ | hk <;> exact ⟨hk.cfg, hk.host, hk.held, hk.dialect⟩

theorem State.Sends.sequencer_keeps (hs : s.Sends t) :
    t.cfg = s.cfg ∧ t.host = s.host ∧ t.held = s.held ∧ t.dialect = s.dialect := by
  cases hs with
  | failed f n m a => exact ⟨rfl, rfl, rfl, rfl⟩
  | went f n m t ha => exact ha.sequencer_keeps

theorem State.completion_keeps : s.completion.cfg = s.cfg ∧ s.completion.host = s.host ∧ s.completion.held = s.held := by
  unfold State.completion
  split <;> exact ⟨rfl, rfl, rfl⟩

theorem Accepted.keeps {i : Instr} (ha : Accepted u i t) : t.cfg = u.cfg ∧ t.host = u.host := by
  cases ha with
  | began _ o t hk => exact ⟨hk.cfg, hk.host⟩
  | _ => exact ⟨rfl, rfl⟩

/-- The FCB writes neither its configuration nor the host's queue. -/
theorem fcbStep_keeps (he : fcbStep s = .next t) : t.cfg = s.cfg ∧ t.host = s.host := by
  cases hb : s.busy with
  | true =>
    rcases fcbStep_of_busy hb he with ⟨la, -, hs⟩ | ⟨-, rfl⟩
    · obtain ⟨hcfg, hhost, -⟩ := hs.sequencer_keeps
      exact ⟨hcfg, hhost⟩
    · obtain ⟨hcfg, hhost, -⟩ := s.completion_keeps
      exact ⟨hcfg, hhost⟩
  | false =>
    rcases fcbStep_of_idle_cases hb he with ⟨w, rfl⟩ | ⟨w, i, -, -, ha⟩ | ⟨-, rfl⟩
    · exact ⟨rfl, rfl⟩
    · exact ha.keeps
    · exact ⟨rfl, rfl⟩

/-! ### A step of the machine: of the FCB, of the host, or the reset input -/

/-- `t` is `s` but for what the host owns: the operand registers, its request and payload, its queue and its last read. -/
def State.HostSideOnly (s t : State) : Prop :=
  t = { s with
    arg0 := t.arg0, arg1 := t.arg1, arg2 := t.arg2, arg3 := t.arg3, held := t.held, dataIn := t.dataIn, host := t.host
    readData := t.readData }

/-- Everything a step of the machine can do. -/
theorem step_next_cases (h : step s = .next t) : s.cfg.WF ∧
    ((∃ q, fcbStep { s with host := q } = .next t) ∨ (s.held = none ∧ s.HostSideOnly t) ∨
      (∃ rest, s.host = .reset :: rest ∧ t = { s with host := rest }.resetInput)) := by
  by_cases hcfg : s.cfg.WF
  swap
  · simp [step_of_not_wf hcfg] at h
  refine ⟨hcfg, ?_⟩
  rw [step_of_wf hcfg] at h
  rcases machineStep_cases (s := s) with e | ⟨rest, -, e⟩ | ⟨v, d, rest, hn, e⟩ | ⟨r, v, rest, hn, -, -, e⟩ |
    ⟨r, rest, hn, -, e⟩ | ⟨rest, hr, e⟩ <;> rw [e] at h
  · exact .inl ⟨s.host, h⟩
  · exact .inl ⟨rest, h⟩
  all_goals rw [Host.Outcome.next.injEq] at h; subst h
  · exact .inr (.inl ⟨hn, rfl⟩)
  · exact .inr (.inl ⟨hn, by cases r <;> rfl⟩)
  · exact .inr (.inl ⟨hn, rfl⟩)
  · exact .inr (.inr ⟨rest, hr, rfl⟩)

/-- What every step keeps, from what the FCB's steps, the host's and the reset input keep. -/
theorem step_preserves {P : State → Prop} (hfcb : ∀ s t, s.cfg.WF → P s → fcbStep s = .next t → P t)
    (hside : ∀ s t, P s → s.HostSideOnly t → P t) (hreset : ∀ s, P s → P s.resetInput) (hs : P s)
    (h : step s = .next t) : P t := by
  have hhost (q : List HostAction) : P { s with host := q } := hside s _ hs rfl
  obtain ⟨hcfg, ⟨q, he⟩ | ⟨-, hk⟩ | ⟨rest, -, rfl⟩⟩ := step_next_cases h
  · exact hfcb { s with host := q } t hcfg (hhost q) he
  · exact hside s t hs hk
  · exact hreset _ (hhost rest)

/-! ### The invariants -/

theorem State.HostInv.hostSideOnly (h : s.HostInv) (hk : s.HostSideOnly t) : t.HostInv :=
  h.congr (by rw [hk]; rfl)

theorem resetWith_hostInv (c : Config) : (State.resetWith c).HostInv := by
  constructor <;> simp [State.resetWith]

theorem resetWith_inv {c : Config} (h : c.WF) : (State.resetWith c).Inv :=
  ⟨h, resetWith_hostInv c, fun hb => by simp [State.resetWith] at hb⟩

theorem State.Inv.hostSideOnly (h : s.Inv) (hk : s.HostSideOnly t) : t.Inv := by
  refine ⟨?_, h.host.hostSideOnly hk, fun hb => ?_⟩
  · rw [hk]; exact h.configured
  · rw [hk] at hb ⊢; exact h.seq hb

theorem State.Inv.resetInput (h : s.Inv) : s.resetInput.Inv :=
  ⟨h.configured, (resetWith_hostInv s.cfg).congr rfl, fun hb => by simp [State.resetInput, State.resetWith] at hb⟩

theorem State.EraseStage.locAddr_lt (hcfg : s.cfg.WF) (h : s.EraseStage) : s.locAddr.toNat < 2 ^ 24 := by
  obtain ⟨hlo, -⟩ := h
  exact hlo.trans_le (capacity_le_of_wf hcfg)

theorem State.ProgramStage.locAddr_lt (hcfg : s.cfg.WF) (h : s.ProgramStage) : s.locAddr.toNat < 2 ^ 24 := by
  obtain ⟨hlo, -⟩ := h
  exact hlo.trans_le (capacity_le_of_wf hcfg)

theorem State.CarriesAddress.not_ending {f : Fsm} (hc : s.CarriesAddress) (h : s.Ending f) : False := by
  obtain ⟨-, ht⟩ := h
  simp [State.CarriesAddress, ht] at hc

/-- The address a program or an erase cycle carries fits its 24 bits (20_memory.md R65). -/
theorem State.InOperation.locAddr_lt (hcfg : s.cfg.WF) (h : s.InOperation) (hc : s.CarriesAddress) :
    s.locAddr.toNat < 2 ^ 24 := by
  rcases h with ⟨-, -, -, -, h⟩ | ⟨-, ⟨-, h⟩ | ⟨-, h⟩ | ⟨-, h⟩ | ⟨-, -, -, -, -, h⟩ | ⟨-, h⟩⟩
  · obtain ⟨ht, -⟩ | ⟨ht, -⟩ | ⟨ht, -⟩ | ⟨ht, -⟩ := h <;> simp [State.CarriesAddress, ht] at hc
  · obtain ⟨-, -, -, -, -, -, h | h | h⟩ := h
    · exact h.locAddr_lt hcfg
    all_goals exact (hc.not_ending h).elim
  · obtain ⟨-, -, -, -, ⟨-, h⟩ | h | h⟩ := h
    · exact h.locAddr_lt hcfg
    all_goals exact (hc.not_ending h).elim
  · obtain ⟨-, -, -, -, -, h | h⟩ := h
    · exact h.locAddr_lt hcfg
    · exact (hc.not_ending h).elim
  · obtain ⟨ht, -⟩ | ⟨ht, -⟩ := h <;> simp [State.CarriesAddress, ht] at hc
  · obtain ⟨-, -, -, -, -, ⟨-, -, h⟩ | ⟨-, -, -, -, h⟩ | ⟨-, -, -, h⟩ | h⟩ := h
    · exact h.locAddr_lt hcfg
    · exact h.locAddr_lt hcfg
    · exact h.locAddr_lt hcfg
    · exact (hc.not_ending h).elim

theorem State.completion_busy : s.completion.busy = false := by
  unfold State.completion
  split <;> rfl

theorem Accepted.seqInv {w : Word} {i : Instr} (ha : Accepted (s.latch w) i t) (hcfg : s.cfg.WF) (h : s.HostInv)
    (hb : s.busy = false) : t.SeqInv := by
  have ho : s.outer = .none := h.outer_of_idle hb
  cases ha with
  | identify hop => exact fun _ => .inl ⟨hop, rfl, ho, rfl, .inl ⟨rfl, by simp⟩⟩
  | began _ o t hk hin => exact fun _ => hin hcfg ho
  | _ => intro hbt; simp at hbt

theorem State.Inv.fcbStep (h : s.Inv) (he : fcbStep s = .next t) : t.Inv := by
  obtain ⟨hcfg, hhost, hseq⟩ := h
  obtain ⟨hkcfg, -⟩ := fcbStep_keeps he
  refine ⟨hkcfg ▸ hcfg, hhost.fcbStep hcfg he, fun hbt => ?_⟩
  cases hb : s.busy with
  | true =>
    have hop := hseq hb
    rcases fcbStep_of_busy hb he with ⟨la, hla, hs⟩ | ⟨-, rfl⟩
    · obtain rfl : la = s.locAddr := hla (hop.locAddr_lt hcfg)
      cases hs with
      | failed f n m a => simp at hbt
      | went f n m t ha => exact State.InOperation.advance (s := s.send f n m) hcfg hop ha hbt
    · simp [State.completion_busy] at hbt
  | false =>
    rcases fcbStep_of_idle_cases hb he with ⟨w, rfl⟩ | ⟨w, i, -, -, ha⟩ | ⟨-, rfl⟩
    · simp at hbt
    · exact ha.seqInv hcfg hhost hb hbt
    · simp [hb] at hbt

/-- Settles O53: the host's steps and the reset input touch nothing an operation in progress reads, and each step of the
FCB begins, continues or ends the operation in `OP`. -/
theorem stepKeepsTheInvariant : Obligations.StepKeepsTheInvariant := by
  intro s t h hstep
  exact step_preserves (P := State.Inv) (fun _ _ _ h he => h.fcbStep he) (fun _ _ h hk => h.hostSideOnly hk)
    (fun _ h => h.resetInput) h hstep

/-- Settles O52: the host's part of the same argument, which holds wherever the sequencer stands. -/
theorem stepKeepsTheHostInvariant : Obligations.StepKeepsTheHostInvariant := by
  intro s t h hstep
  exact step_preserves (P := State.HostInv) (fun _ _ hcfg h he => h.fcbStep hcfg he) (fun _ _ h hk => h.hostSideOnly hk)
    (fun s _ => (resetWith_hostInv s.cfg).congr rfl) h hstep

/-- Settles O51: after reset nothing is in progress. -/
theorem resetSatisfiesTheInvariant : Obligations.ResetSatisfiesTheInvariant :=
  ⟨fun _ h => resetWith_inv h, resetWith_inv (by decide)⟩

/-! ### A held request (10_state.md R33) -/

/-- A request row executed while busy is the host's write, held. -/
theorem exec_request_of_busy {i : Instr} {w : Word} (h : encode s.cfg i = .request w) (hb : s.busy = true) :
    exec i s = .next { s with held := some w } := by
  cases i <;> simp only [encode, Code.request.injEq, reduceCtorEq] at h <;> subst h
  all_goals exact congrArg Host.Outcome.next (State.request_of_busy _ _ hb)

/-- Settles O23: a busy FCB's step keeps `held`, the host has no step, and the reset input leaves it. -/
theorem requestIsHeldWhileBusy : Obligations.RequestIsHeldWhileBusy := by
  refine ⟨fun s i w h hb => exec_request_of_busy h hb, fun s t w hb hw hstep => ?_⟩
  obtain ⟨-, ⟨q, he⟩ | ⟨hn, -⟩ | ⟨rest, -, rfl⟩⟩ := step_next_cases hstep
  · rcases fcbStep_of_busy (s := { s with host := q }) hb he with ⟨la, -, hs⟩ | ⟨-, rfl⟩
    · obtain ⟨-, -, hheld, -⟩ := hs.sequencer_keeps
      exact hheld.trans hw
    · obtain ⟨-, -, hheld⟩ := State.completion_keeps (s := { s with host := q })
      exact hheld.trans hw
  · simp [hn] at hw
  · exact hw

/-! ### Who writes `DIALECT` (10_state.md R29) -/

theorem State.completion_dialect :
    (s.op = 0x6 ∧ s.completion.dialect = s.cfg.dialectOf s.locId) ∨ s.completion.dialect = s.dialect := by
  unfold State.completion
  split
  next h => exact .inl ⟨BitVec.eq_of_toNat_eq h, rfl⟩
  all_goals exact .inr rfl

theorem Accepted.dialect {i : Instr} (ha : Accepted u i t) :
    ((i = .identify ∨ i = .shutdown) ∧ t.dialect = .none) ∨ t.dialect = u.dialect := by
  cases ha with
  | identify => exact .inl ⟨.inl rfl, rfl⟩
  | shutdown => exact .inl ⟨.inr rfl, rfl⟩
  | began _ o t hk => exact .inr hk.dialect
  | _ => exact .inr rfl

/-- Settles O48: of the FCB's steps only the acceptance of these two requests and IDENTIFY's completion write it. -/
theorem onlyIdentifyShutdownAndResetWriteTheDialect : Obligations.OnlyIdentifyShutdownAndResetWriteTheDialect := by
  intro s t hstep hne
  obtain ⟨-, ⟨q, he⟩ | ⟨-, hk⟩ | ⟨rest, hr, rfl⟩⟩ := step_next_cases hstep
  · cases hb : s.busy with
    | true =>
      rcases fcbStep_of_busy (s := { s with host := q }) hb he with ⟨la, -, hs⟩ | ⟨ht, rfl⟩
      · obtain ⟨-, -, -, hd⟩ := hs.sequencer_keeps
        exact absurd hd hne
      · rcases State.completion_dialect (s := { s with host := q }) with ⟨hop, hd⟩ | hd
        · exact .inr ⟨rfl, ht, hop, hd ▸ dialectOf_ne_none _ _⟩
        · exact absurd hd hne
    | false =>
      rcases fcbStep_of_idle_cases (s := { s with host := q }) hb he with ⟨w, rfl⟩ | ⟨w, i, hw, hi, ha⟩ | ⟨-, rfl⟩
      · exact absurd rfl hne
      · rcases ha.dialect with ⟨hreq, hd⟩ | hd
        · refine .inl ⟨hd, .inr ⟨rfl, ?_⟩⟩
          rcases hreq with rfl | rfl <;> cases hi
          · exact .inl hw
          · exact .inr hw
        · exact absurd hd hne
      · exact absurd rfl hne
  · rw [hk] at hne
    exact absurd rfl hne
  · exact .inl ⟨rfl, .inl ⟨rest, hr⟩⟩

/-! ### The selected instruction runs (10_state.md R27, R33) -/

theorem step_of_run {rest : List HostAction} (hcfg : s.cfg.WF) (hhost : s.host = .run :: rest) :
    step s = fcbStep { s with host := rest } := by
  rw [step_of_wf hcfg]
  simp [machineStep, hhost]

theorem step_of_no_host (hcfg : s.cfg.WF) (hhost : s.host = []) : step s = fcbStep s := by
  rw [step_of_wf hcfg, machineStep_of_no_host hhost]

/-- Settles O40: what selects the instruction does not depend on the host's queue. -/
theorem stepRunsTheNextInstruction : Obligations.StepRunsTheNextInstruction := by
  refine ⟨fun s i w hb hw hd => ?_, fun s i hcfg hi => ⟨fun hhost => ?_, fun rest hhost => ?_⟩,
    fun s hcfg hhost hb hw => ?_⟩
  · have hd : decodeRequest w = .ok i := hd
    rw [nextInstr_of_held hb hw, hd]
    rfl
  · rw [step_of_no_host hcfg hhost, fcbStep_of_nextInstr hi]
  · rw [step_of_run hcfg hhost]
    exact fcbStep_of_nextInstr (s := { s with host := rest }) hi
  · rw [step_of_no_host hcfg hhost, fcbStep_of_idle hb hw]

/-! ### A placed instruction runs next -/

theorem State.place_host (i : Instr) : (s.place i).host = [] := by
  cases i <;> rfl

@[simp] theorem addr24_through_word (a : Addr24) : (a.setWidth 32).setWidth 24 = a := by
  apply BitVec.eq_of_toNat_eq
  have := a.isLt
  simp only [BitVec.toNat_setWidth]
  omega

/-- A frame row at the sequencer's place is the cycle there (30_encoding.md R82, R84). -/
theorem State.sendCycle_cycleFrameSent {k : CycleKind} (ht : s.todo = .cycle k) (c : Cycle) :
    s.sendCycle (cycleFrame s.cfg k c) c.addr State.cycleFrameSent = s.cycleStep k s.seqIdx.toNat c := by
  have hsent (f : Frame) : (s.send f 0 s.cfg.tCycle).cycleFrameSent =
      (s.send f 0 s.cfg.tCycle).cycleSent k (s.seqIdx.toNat + 1) := by
    simp [State.cycleFrameSent, ht]
  unfold State.cycleStep State.sendCycle
  split
  · rfl
  · exact hsent _

theorem extractLsb'_setWidth_self {n : Nat} (x : BitVec n) (hn : n ≤ 32) : (x.setWidth 32).extractLsb' 0 n = x := by
  simp [← BitVec.setWidth_eq_extractLsb' hn, BitVec.setWidth_setWidth_of_le, hn]

theorem addr24_excess_eq_zero (a : Addr24) : (a.setWidth 32).extractLsb' 24 8 = 0 := by
  ext i hi
  simp

/-- BUILD_FRAME_G with its operands in the registers builds their frame (30_encoding.md R91, R93). -/
theorem exec_buildFrameG_of_operands {op : Byte} {p32 : Word} {p16 : Half} (hb : s.busy = false)
    (h0 : s.arg0 = op.setWidth 32) (h1 : s.arg1 = p32) (h2 : s.arg2 = p16.setWidth 32) :
    exec .buildFrameG s = exec (.frameG op p32 p16) s := by
  obtain rfl := h1
  have hs : { s with arg0 := op.setWidth 32, arg1 := s.arg1, arg2 := p16.setWidth 32 } = s := by rw [← h0, ← h2]
  have hf : (s.latch 0x00000001).frameGOperands = layoutG op s.arg1 p16 := by
    simp [State.frameGOperands, State.byteOperand, State.param16Operand, h0, h2, extractLsb'_setWidth_self]
  simp only [exec, execBuildFrameG, execFrameG, hs, State.request_of_idle _ _ hb, hf]

/-- BUILD_FRAME_A3 likewise: a 24-bit address passes its check. -/
theorem exec_buildFrameA3_of_operands {op v : Byte} {a : Addr24} {sub : Half} (hb : s.busy = false)
    (h0 : s.arg0 = op.setWidth 32) (h1 : s.arg1 = a.setWidth 32) (h2 : s.arg2 = v.setWidth 32)
    (h3 : s.arg3 = sub.setWidth 32) : exec .buildFrameA3 s = exec (.frameA3 op a v sub) s := by
  have hs : { s with
      arg0 := op.setWidth 32, arg1 := a.setWidth 32, arg2 := v.setWidth 32, arg3 := sub.setWidth 32 } = s := by
    rw [← h0, ← h1, ← h2, ← h3]
  have hf : (s.latch 0x00000002).frameA3Operands = layoutA3 op a v sub := by
    simp [State.frameA3Operands, State.byteOperand, State.addr24Operand, State.valueOperand, State.subOperand, h0, h1, h2,
      h3, extractLsb'_setWidth_self]
  have hpass : (s.latch 0x00000002).addressCheck.failed = false := by
    simp [State.addressCheck, State.addr24Excess, h1, addr24_excess_eq_zero]
  simp only [exec, execBuildFrameA3, execFrameA3, hs, State.request_of_idle _ _ hb, State.guarded_cons, hpass,
    State.guarded_nil, hf, Bool.false_eq_true, if_false]

/-- The row the sequencer or the request register selects for a placed instruction has that instruction's meaning. -/
theorem State.place_selects (i : Instr) (h : i.wf (s.place i).cfg = true) :
    ∃ j, (s.place i).nextInstr = some j ∧ exec j (s.place i) = exec i (s.place i) := by
  cases i
  case frameG op p32 p16 => exact ⟨.buildFrameG, rfl, exec_buildFrameG_of_operands rfl rfl rfl rfl⟩
  case frameA3 op a v sub => exact ⟨.buildFrameA3, rfl, exec_buildFrameA3_of_operands rfl rfl rfl rfl rfl⟩
  case encCycleSub01 a d =>
    refine ⟨.resetReset 0, rfl, congrArg Host.Outcome.next ?_⟩
    exact (State.sendCycle_cycleFrameSent (s := s.place (.encCycleSub01 a d)) (k := .reset) rfl ⟨a, d⟩).symm
  case encCycleProgram a d =>
    refine ⟨.programProgData a d, ?_, congrArg Host.Outcome.next ?_⟩
    · simp [State.place, State.nextInstr, State.withCycle, State.cycleAtSeqIdx, State.withEnc]
    · exact (State.sendCycle_cycleFrameSent (s := s.place (.encCycleProgram a d)) (k := .program) rfl ⟨a, d⟩).symm
  case plainCycle o a d sub =>
    refine ⟨.programProgData a d, ?_, congrArg Host.Outcome.next ?_⟩
    · simp [State.place, State.nextInstr, State.withCycle, State.cycleAtSeqIdx, State.withPlain]
    · exact (State.sendCycle_cycleFrameSent (s := s.place (.plainCycle o a d sub)) (k := .program) rfl ⟨a, d⟩).symm
  case programProgData pa pd =>
    exact ⟨_, by simp [State.place, State.nextInstr, State.withCycle, State.cycleAtSeqIdx], rfl⟩
  case eraseSectorErase sa =>
    exact ⟨_, by simp [State.place, State.nextInstr, State.withCycle, State.cycleAtSeqIdx], rfl⟩
  case resetReset j => exact ⟨.resetReset j, if_pos (of_decide_eq_true h), rfl⟩
  all_goals exact ⟨_, rfl, rfl⟩

/-- Settles O41: the placed state selects the instruction or, for a frame row, the row that sends or builds its frame. -/
theorem placedInstructionRunsNext : Obligations.PlacedInstructionRunsNext := by
  intro s i hcfg hwf
  obtain ⟨j, hj, he⟩ := State.place_selects i hwf
  rw [step_of_no_host hcfg (s.place_host i), fcbStep_of_nextInstr hj, he]

/-! ### The host's accesses (10_state.md R23 to R25, R39) -/

theorem step_of_write {r : HostReg} {v : Word} {rest : List HostAction} (hcfg : s.cfg.WF)
    (hhost : s.host = .write r v :: rest) (hn : s.held = none) (hr : r ≠ .req) :
    step s = .next ({ s with host := rest }.writeReg r v) := by
  rw [step_of_wf hcfg]
  cases r <;> simp_all [machineStep, hostAccess_of_none]

theorem step_of_request {w : Word} {data : List Byte} {rest : List HostAction} (hcfg : s.cfg.WF)
    (hhost : s.host = .request w data :: rest ∨ (s.host = .write .req w :: rest ∧ data = [])) (hn : s.held = none) :
    step s = .next ({ s with host := rest }.issue w data) := by
  rw [step_of_wf hcfg]
  rcases hhost with hhost | ⟨hhost, rfl⟩ <;> simp [machineStep, hhost, hostAccess_of_none hn]

theorem step_of_read {r : HostReg} {rest : List HostAction} (hcfg : s.cfg.WF) (hhost : s.host = .read r :: rest)
    (hn : s.held = none) : step s = .next { s with host := rest, readData := s.readReg r } := by
  rw [step_of_wf hcfg]
  simp only [machineStep, hhost, hostAccess_of_none hn]
  cases r <;> rfl

/-- The registers the host writes whole (R24). -/
def argRegs : List HostReg := [.arg0, .arg1, .arg2, .arg3]

theorem readReg_writeReg_same {r : HostReg} (hr : r ∈ argRegs) (v : Word) : (s.writeReg r v).readReg r = v := by
  simp only [argRegs, List.mem_cons, List.not_mem_nil, or_false] at hr
  rcases hr with rfl | rfl | rfl | rfl <;> rfl

theorem readReg_writeReg_ne {r r' : HostReg} (h : r' ≠ r) (v : Word) : (s.writeReg r v).readReg r' = s.readReg r' := by
  cases r <;> cases r' <;> try contradiction
  all_goals rfl

theorem writeReg_args (r : HostReg) (v : Word) : s.writeReg r v = { s with
    arg0 := (s.writeReg r v).arg0, arg1 := (s.writeReg r v).arg1, arg2 := (s.writeReg r v).arg2
    arg3 := (s.writeReg r v).arg3 } := by
  cases r <;> rfl

theorem writeReg_readOnly {r : HostReg} (hr : r ∉ argRegs) (v : Word) : s.writeReg r v = s := by
  cases r <;> simp_all [argRegs, State.writeReg]

/-- Settles O43: with no word held the access happens at once; else the FCB, which never writes the queue, steps. -/
theorem hostAccesses : Obligations.HostAccesses := by
  refine ⟨rfl, fun s => ⟨rfl, rfl, rfl, rfl, rfl, rfl, rfl, rfl, rfl⟩, fun s r v rest hcfg => ⟨?_, ?_, ?_, ?_, ?_, ?_⟩⟩
  · intro hhost hr hn
    have hne : r ≠ .req := by rintro rfl; simp at hr
    exact ⟨_, step_of_write hcfg hhost hn hne, readReg_writeReg_same hr v, fun r' h => readReg_writeReg_ne h v,
      writeReg_args r v⟩
  · intro hhost hr hn
    have hne : r ≠ .req := by rintro rfl; simp at hr
    have hro : r ∉ argRegs := by
      simp only [List.mem_cons, List.not_mem_nil, or_false] at hr
      rcases hr with rfl | rfl | rfl | rfl | rfl <;> simp [argRegs]
    rw [step_of_write hcfg hhost hn hne, writeReg_readOnly hro]
  · exact fun data hhost hn => step_of_request hcfg (.inl hhost) hn
  · exact fun hhost hn => step_of_request hcfg (.inr ⟨hhost, rfl⟩) hn
  · intro hhost hn
    have hstep : step s = fcbStep s := by
      rw [step_of_wf hcfg]
      rcases hhost with hhost | ⟨data, hhost⟩ | hhost <;> exact machineStep_of_held hn (by simp [hhost]) (by simp [hhost])
    refine ⟨hstep, fun t ht => ?_⟩
    obtain ⟨-, hkeep⟩ := fcbStep_keeps (hstep ▸ ht)
    exact hkeep
  · exact fun hhost hn => step_of_read hcfg hhost hn

/-! ### `STATUS` (10_state.md R26) -/

/-- The fields of a word put together as `STATUS` is. -/
theorem status_fields (z : BitVec 18) (e b0 b1 : Bool) (o : BitVec 2) (f : BitVec 3) (er : BitVec 4) (d : BitVec 2) :
    let w : Word := z ++ BitVec.ofBool e ++ o ++ f ++ er ++ d ++ BitVec.ofBool b1 ++ BitVec.ofBool b0
    w.getLsbD 0 = b0 ∧ w.getLsbD 1 = b1 ∧ w.extractLsb' 2 2 = d ∧ w.extractLsb' 4 4 = er ∧ w.extractLsb' 8 3 = f ∧
      w.extractLsb' 11 2 = o ∧ w.getLsbD 13 = e ∧ w.extractLsb' 14 18 = z := by
  refine ⟨?_, ?_, ?_, ?_, ?_, ?_, ?_, ?_⟩
  case refine_1 | refine_2 | refine_7 => simp only [BitVec.getLsbD_append]; simp
  all_goals
    ext i hi
    simp only [BitVec.getElem_extractLsb', BitVec.getLsbD_append]
    grind

/-- Settles O42: each field stands in its bits, and each code has its number. -/
theorem statusFields : Obligations.StatusFields := by
  intro s
  obtain ⟨hb, hd, hdia, herr, hf, ho, he, hz⟩ := status_fields 0 s.cfg.encrypting s.busy s.done s.outer.code s.fsm.code
    s.err.code (dialectCode s.dialect)
  refine ⟨hb, hd, hdia.trans ?_, herr.trans ?_, hf.trans ?_, ho.trans ?_, he, hz⟩
  · cases s.dialect <;> rfl
  · cases s.err <;> rfl
  · cases s.fsm <;> rfl
  · cases s.outer <;> rfl

end Sys2Proof.Machine

/-! # What the FCB selects and sends (20_memory.md)

Which row an idle and a busy FCB select, that the row is well formed, and what the transport has seen after its step. -/

namespace Sys2Proof.Machine

variable {s t u : State}

/-! ### The selected row is well formed (20_memory.md R65, 30_encoding.md R78, R84) -/

/-- What an idle FCB can have selected: the row of its held request word. -/
theorem nextInstr_of_idle {i : Instr} (hb : s.busy = false) (hi : s.nextInstr = some i) :
    ∃ w, s.held = some w ∧ encode s.cfg i = .request w := by
  cases hw : s.held with
  | none => simp [State.nextInstr, hb, hw] at hi
  | some w =>
    rw [nextInstr_of_held hb hw] at hi
    cases hd : decodeRequest w with
    | error d => simp [hd, Except.toOption] at hi
    | ok j =>
      obtain rfl : j = i := by simpa [hd, Except.toOption] using hi
      exact ⟨w, rfl, encode_of_decodeRequest s.cfg hd⟩

theorem wf_of_encode_request {c : Config} {i : Instr} {w : Word} (h : encode c i = .request w) : i.wf c = true := by
  cases i <;> simp only [encode, reduceCtorEq] at h
  all_goals rfl

theorem readInstr_wf (c : Config) (a : Word) : (readInstr c a).wf c = true := by
  cases h : c.profile <;> simp [readInstr, Instr.wf, h]

/-- An address in the flash window is in it after its way through a cycle's 24 bits (20_memory.md R65). -/
theorem addr24_lt_of_lt {a : Word} {n : Nat} (h : a.toNat < n) : (a.setWidth 24).toNat < n := by
  rw [BitVec.toNat_setWidth]
  exact (Nat.mod_le _ _).trans_lt h

theorem State.cycleAtSeqIdx_wf {k : CycleKind} {i : Instr} (h : s.cycleAtSeqIdx k = some i)
    (hloc : k = .program ∨ k = .erase → s.locAddr.toNat < s.cfg.capacity) : i.wf s.cfg = true := by
  unfold State.cycleAtSeqIdx at h
  split at h
  case h_8 => cases h; exact decide_eq_true (addr24_lt_of_lt (hloc (.inl rfl)))
  case h_15 => cases h; exact decide_eq_true (addr24_lt_of_lt (hloc (.inr rfl)))
  case h_17 =>
    obtain ⟨hlt, rfl⟩ : s.seqIdx.toNat < s.cfg.resetSeq.length ∧ .resetReset s.seqIdx = i := by simpa using h
    exact decide_eq_true hlt
  all_goals cases h
  all_goals rfl

/-- Only `EraseBody` and `ProgramBody` make cycles at an address of the operation (43 R144, R145). -/
theorem State.InOperation.stage_of_carriesAddress (h : s.InOperation) (hc : s.CarriesAddress) :
    s.EraseStage ∨ s.ProgramStage := by
  rcases h with ⟨-, -, -, -, h⟩ | ⟨-, ⟨-, h⟩ | ⟨-, h⟩ | ⟨-, h⟩ | ⟨-, -, -, -, -, h⟩ | ⟨-, h⟩⟩
  · obtain ⟨ht, -⟩ | ⟨ht, -⟩ | ⟨ht, -⟩ | ⟨ht, -⟩ := h <;> simp [State.CarriesAddress, ht] at hc
  · obtain ⟨-, -, -, -, -, -, h | h | h⟩ := h
    · exact .inl h
    all_goals exact (hc.not_ending h).elim
  · obtain ⟨-, -, -, -, ⟨-, h⟩ | h | h⟩ := h
    · exact .inl h
    all_goals exact (hc.not_ending h).elim
  · obtain ⟨-, -, -, -, -, h | h⟩ := h
    · exact .inr h
    · exact (hc.not_ending h).elim
  · obtain ⟨ht, -⟩ | ⟨ht, -⟩ := h <;> simp [State.CarriesAddress, ht] at hc
  · obtain ⟨-, -, -, -, -, ⟨-, -, h⟩ | ⟨-, -, -, -, h⟩ | ⟨-, -, -, h⟩ | h⟩ := h
    · exact .inl h
    · exact .inl h
    · exact .inr h
    · exact (hc.not_ending h).elim

/-- The block or byte such a cycle names lies in the flash window (20_memory.md R65, 30_encoding.md R78). -/
theorem State.InOperation.locAddr_lt_capacity (h : s.InOperation) (hc : s.CarriesAddress) :
    s.locAddr.toNat < s.cfg.capacity := by
  obtain ⟨hlo, -⟩ | ⟨hlo, -⟩ := h.stage_of_carriesAddress hc <;> exact hlo

/-- Settles O55: a request row is always well formed, a read row is built for the profile, and a cycle row's address is
the one its stage keeps in the window. -/
theorem nextInstructionIsWellFormed : Obligations.NextInstructionIsWellFormed := by
  intro s i hinv hi
  cases hb : s.busy with
  | false =>
    obtain ⟨w, -, he⟩ := nextInstr_of_idle hb hi
    exact wf_of_encode_request he
  | true =>
    rcases nextInstr_of_busy hb hi with ⟨k, ht, hk⟩ | ⟨-, rfl⟩
    · exact State.cycleAtSeqIdx_wf hk fun hkind => (hinv.seq hb).locAddr_lt_capacity ⟨k, ht, hkind⟩
    · exact readInstr_wf _ _

/-! ### What a selected row hands to the transport (30_encoding.md R84, R85) -/

/-- A profile cycle with `n = 0` and `T_CYCLE`, or a profile read with `n = 4` and `T_READ` (R85). -/
def FormedBy (c : Config) (x : Exchange) : Prop :=
  (∃ k y, x = ⟨cycleFrame c k y, 0, c.tCycle⟩) ∨ (∃ a, x = ⟨readFrame c a, 4, c.tRead⟩)

theorem exchangeOf_readInstr (c : Config) (a : Word) :
    exchangeOf c (readInstr c a) = some ⟨readFrame c a, 4, c.tRead⟩ := by
  cases h : c.profile <;> simp only [readInstr, readFrame, h] <;> rfl

theorem failureAddress_readInstr (c : Config) (a : Word) : failureAddress c (readInstr c a) = some a := by
  cases h : c.profile <;> simp only [readInstr, h] <;> rfl

theorem exchangeOf_of_encode_cycle {c : Config} {i : Instr} {k : CycleKind} {pos : Nat} {cw : Word}
    (h : encode c i = .cycle k pos cw) : exchangeOf c i = some ⟨cycleFrame c k (Cycle.ofWord cw), 0, c.tCycle⟩ := by
  simp only [exchangeOf, h]

theorem exchangeOf_of_encode_request {c : Config} {i : Instr} {w : Word} (h : encode c i = .request w) :
    exchangeOf c i = none := by
  simp only [exchangeOf, h]

/-- The row at `SEQ_IDX` is a `Send` row whose word stands at that position of its sequence (30_encoding.md R82). -/
theorem State.cycleAtSeqIdx_encode {k : CycleKind} {i : Instr} (h : s.cycleAtSeqIdx k = some i) :
    (failureAddress s.cfg i).isSome = true ∧ ∃ cw, encode s.cfg i = .cycle k s.seqIdx.toNat cw := by
  unfold State.cycleAtSeqIdx at h
  split at h
  case h_17 =>
    obtain ⟨hlt, rfl⟩ : s.seqIdx.toNat < s.cfg.resetSeq.length ∧ .resetReset s.seqIdx = i := by simpa using h
    exact ⟨by simp [failureAddress, hlt], _, rfl⟩
  all_goals cases h
  all_goals
    rename_i hpos
    exact ⟨rfl, _, by rw [hpos]; rfl⟩

/-- Whatever a busy FCB selects makes a `Send`, of a frame its profile forms. -/
theorem sends_of_nextInstr {i : Instr} (hb : s.busy = true) (hi : s.nextInstr = some i) :
    (failureAddress s.cfg i).isSome = true ∧ ∃ x, exchangeOf s.cfg i = some x ∧ FormedBy s.cfg x := by
  rcases nextInstr_of_busy hb hi with ⟨k, -, hk⟩ | ⟨-, rfl⟩
  · obtain ⟨hsend, cw, hcw⟩ := State.cycleAtSeqIdx_encode hk
    exact ⟨hsend, _, exchangeOf_of_encode_cycle hcw, .inl ⟨_, _, rfl⟩⟩
  · exact ⟨by simp [failureAddress_readInstr], _, exchangeOf_readInstr _ _, .inr ⟨_, rfl⟩⟩

theorem nextExchange_of_nextInstr {i : Instr} (hi : s.nextInstr = some i) : s.nextExchange = exchangeOf s.cfg i := by
  simp [State.nextExchange, hi]

/-- An idle FCB sends nothing (20_memory.md R57, 60_exceptions.md R195). -/
theorem nextExchange_of_idle (hb : s.busy = false) : s.nextExchange = none := by
  cases hi : s.nextInstr with
  | none => simp [State.nextExchange, hi]
  | some i =>
    obtain ⟨w, -, he⟩ := nextInstr_of_idle hb hi
    rw [nextExchange_of_nextInstr hi, exchangeOf_of_encode_request he]

theorem nextExchange_of_complete (hb : s.busy = true) (ht : s.todo = .complete) : s.nextExchange = none := by
  simp [State.nextExchange, State.nextInstr, hb, ht]

theorem nextExchange_formedBy {x : Exchange} (h : s.nextExchange = some x) : FormedBy s.cfg x := by
  cases hb : s.busy with
  | false => simp [nextExchange_of_idle hb] at h
  | true =>
    obtain ⟨i, hi, hx⟩ := Option.bind_eq_some_iff.mp h
    obtain ⟨-, y, hy, hform⟩ := sends_of_nextInstr hb hi
    obtain rfl : y = x := by simpa [hy] using hx
    exact hform

/-! ### The traffic of a step (20_memory.md R57, R60) -/

/-- The transport's side: the frame stream, the number of `Send`s and the coming answers. -/
def State.traffic (s : State) := (s.sent, s.sends, s.answers)

/-- The transport's side after a step that hands over `o`. -/
def State.trafficAfter (s : State) (o : Option Exchange) :=
  (s.sent ++ o.toList, s.sends + o.toList.length, s.answers.drop o.toList.length)

@[simp] theorem State.trafficAfter_none : s.trafficAfter none = s.traffic := by
  simp [State.trafficAfter, State.traffic]

theorem State.completion_traffic : s.completion.traffic = s.traffic := by
  unfold State.completion
  split <;> rfl

theorem Accepted.traffic {i : Instr} (ha : Accepted u i t) : t.traffic = u.traffic := by
  cases ha with
  | began _ o t hk => simp [State.traffic, hk.sent, hk.sends, hk.answers]
  | _ => rfl

theorem exec_send_traffic {i : Instr} (hi : (failureAddress s.cfg i).isSome = true) (h : exec i s = .next t) :
    t.traffic = s.trafficAfter (exchangeOf s.cfg i) := by
  obtain ⟨t', x, he, hx, hsent, hsends, hans, -⟩ := sendRowsAbortOrChangeTheSequencerOnly s i hi
  obtain rfl : t' = t := by simpa [he] using h
  simp [State.traffic, State.trafficAfter, hx, hsent, hsends, hans]

/-- A step of the FCB hands over the next exchange and nothing else. -/
theorem fcbStep_traffic (h : fcbStep s = .next t) : t.traffic = s.trafficAfter s.nextExchange := by
  cases hb : s.busy with
  | true =>
    rcases fcbStep_cases (s := s) with ⟨i, hi, he⟩ | ⟨-, ht, he⟩ | ⟨-, -, -, he⟩ | ⟨_, _, hb', -⟩ | ⟨hb', -⟩
    · obtain ⟨hsend, -⟩ := sends_of_nextInstr hb hi
      rw [nextExchange_of_nextInstr hi]
      exact exec_send_traffic hsend (he ▸ h)
    · obtain rfl : s.completion = t := by simpa [he] using h
      rw [nextExchange_of_complete hb ht, State.trafficAfter_none, State.completion_traffic]
    · simp [he] at h
    · simp [hb] at hb'
    · simp [hb] at hb'
  | false =>
    rw [nextExchange_of_idle hb, State.trafficAfter_none]
    rcases fcbStep_of_idle_cases hb h with ⟨w, rfl⟩ | ⟨w, i, -, -, ha⟩ | ⟨-, rfl⟩
    · rfl
    · exact ha.traffic
    · rfl

/-- Settles O47: a busy FCB's step runs a `Send` row or the completion, which sends nothing, as an idle FCB does. -/
theorem everyStepSendsAtMostTheNextFrame : Obligations.EveryStepSendsAtMostTheNextFrame := by
  intro s t h
  have htraffic := fcbStep_traffic h
  simp only [State.traffic, State.trafficAfter, Prod.mk.injEq] at htraffic
  obtain ⟨hsent, hsends, hans⟩ := htraffic
  exact ⟨hsent, hsends, hans, fun x hx => nextExchange_formedBy hx⟩

end Sys2Proof.Machine

/-! # Encodings (30_encoding.md)

The layouts put their inputs one after another, so a frame is read back from its bytes; each decoder's words are the
encoder's, place by place; and a cycle at the sequencer's place does what its frame row does. -/

namespace Sys2Proof

/-! ### The frame word and its halves (R71) -/

theorem Frame.w64_layoutG (op : Byte) (p32 : Word) (p16 : Half) :
    (layoutG op p32 p16).w64 = op ++ p32 ++ p16 ++ (0 : Byte) := by
  ext i hi
  simp only [Frame.w64, layoutG]
  grind

theorem Frame.w64_layoutA3 (op : Byte) (a : Addr24) (v : Byte) (s : Half) :
    (layoutA3 op a v s).w64 = op ++ a ++ v ++ s ++ (0 : Byte) := by
  ext i hi
  simp only [Frame.w64, layoutA3]
  grind

theorem Frame.high_eq_w64 (f : Frame) : f.high = f.w64.extractLsb' 32 32 := by
  ext i hi
  simp only [Frame.high, Frame.w64]
  grind

theorem Frame.low_eq_w64 (f : Frame) : f.low = f.w64.extractLsb' 0 32 := by
  ext i hi
  simp only [Frame.low, Frame.w64]
  grind

/-! ### A frame read back from its bytes (R72, R73, R75) -/

/-- Layout G reaches every frame with a reserved byte of 0. -/
theorem layoutG_of_bytes {f : Frame} (h : f.f7 = 0) :
    layoutG f.f0 (f.f1 ++ f.f2 ++ f.f3 ++ f.f4) (f.f5 ++ f.f6) = f := by
  obtain ⟨h1, h2, h3, h4⟩ := bytes_of_word f.f1 f.f2 f.f3 f.f4
  obtain ⟨h5, h6⟩ := bytes_of_half f.f5 f.f6
  simp only [layoutG, h1, h2, h3, h4, h5, h6, ← h]

/-- So does layout A3. -/
theorem layoutA3_of_bytes {f : Frame} (h : f.f7 = 0) :
    layoutA3 f.f0 (f.f1 ++ f.f2 ++ f.f3) f.f4 (f.f5 ++ f.f6) = f := by
  obtain ⟨h1, h2, h3⟩ := bytes_of_addr24 f.f1 f.f2 f.f3
  obtain ⟨h5, h6⟩ := bytes_of_half f.f5 f.f6
  simp only [layoutA3, h1, h2, h3, h5, h6, ← h]

theorem decodeBuilt_layoutG (op : Byte) (p32 : Word) (p16 : Half) :
    decodeBuilt .g (layoutG op p32 p16) = .ok (.frameG op p32 p16) := by
  simp [decodeBuilt, layoutG]

theorem decodeBuilt_layoutA3 (op : Byte) (a : Addr24) (v : Byte) (s : Half) :
    decodeBuilt .a3 (layoutA3 op a v s) = .ok (.frameA3 op a v s) := by
  simp [decodeBuilt, layoutA3]

theorem decodeBuilt_of_reserved_zero {f : Frame} (h : f.f7 = 0) :
    decodeBuilt .g f = .ok (.frameG f.f0 (f.f1 ++ f.f2 ++ f.f3 ++ f.f4) (f.f5 ++ f.f6)) ∧
    decodeBuilt .a3 f = .ok (.frameA3 f.f0 (f.f1 ++ f.f2 ++ f.f3) f.f4 (f.f5 ++ f.f6)) := by
  simp [decodeBuilt, h]

/-! ### Distinct inputs give distinct frames (R88) -/

theorem layoutG_inj {op op' : Byte} {p32 p32' : Word} {p16 p16' : Half}
    (h : layoutG op p32 p16 = layoutG op' p32' p16') : op = op' ∧ p32 = p32' ∧ p16 = p16' := by
  have hd := decodeBuilt_layoutG op p32 p16
  rw [h, decodeBuilt_layoutG] at hd
  cases hd
  exact ⟨rfl, rfl, rfl⟩

theorem layoutA3_inj {op op' : Byte} {a a' : Addr24} {v v' : Byte} {s s' : Half}
    (h : layoutA3 op a v s = layoutA3 op' a' v' s') : op = op' ∧ a = a' ∧ v = v' ∧ s = s' := by
  have hd := decodeBuilt_layoutA3 op a v s
  rw [h, decodeBuilt_layoutA3] at hd
  cases hd
  exact ⟨rfl, rfl, rfl, rfl⟩

/-- A profile's cycle frames are layout A3 of the cycle. -/
theorem cycleFrame_eq_layoutA3 (cfg : Config) (k : CycleKind) :
    ∃ o sub, ∀ c, cycleFrame cfg k c = layoutA3 o c.addr c.data sub := by
  cases h : cfg.profile with
  | enc => exact ⟨0xD4, (subop k).setWidth 16 <<< 8, fun c => by simp only [cycleFrame, h]⟩
  | plain => exact ⟨cfg.opCycle, cfg.subCycle, fun c => by simp only [cycleFrame, h]⟩

/-- A profile's read frames are layout G of the address. -/
theorem readFrame_eq_layoutG (cfg : Config) : ∃ o sub, ∀ a, readFrame cfg a = layoutG o a sub := by
  cases h : cfg.profile with
  | enc => exact ⟨0xB7, 0x2200, fun a => by simp only [readFrame, h]⟩
  | plain => exact ⟨cfg.opRead, cfg.subRead, fun a => by simp only [readFrame, h]⟩

theorem cycleFrame_inj {cfg : Config} {k : CycleKind} {c c' : Cycle} (h : cycleFrame cfg k c = cycleFrame cfg k c') :
    c = c' := by
  obtain ⟨o, sub, hf⟩ := cycleFrame_eq_layoutA3 cfg k
  rw [hf, hf] at h
  obtain ⟨-, ha, hd, -⟩ := layoutA3_inj h
  cases c; cases c'; cases ha; cases hd; rfl

theorem readFrame_inj {cfg : Config} {a a' : Word} (h : readFrame cfg a = readFrame cfg a') : a = a' := by
  obtain ⟨o, sub, hf⟩ := readFrame_eq_layoutG cfg
  rw [hf, hf] at h
  exact (layoutG_inj h).2.1

/-- Settles O6: a frame is read back from its bytes, and its frame word is its inputs one after another. -/
theorem frameConstructionIsInjective : Obligations.FrameConstructionIsInjective :=
  ⟨fun _ _ _ _ _ _ => layoutG_inj, fun _ _ _ _ _ _ _ _ => layoutA3_inj, Frame.w64_layoutG, Frame.w64_layoutA3,
    fun _ _ _ _ => cycleFrame_inj, fun _ _ _ => readFrame_inj⟩

/-- A3's address and value stand where G's parameter stands. -/
theorem layoutA3_eq_layoutG (op : Byte) (a : Addr24) (v : Byte) (s : Half) :
    layoutA3 op a v s = layoutG op (a ++ v) s := by
  obtain ⟨h1, h2, h3, h4⟩ := bytes_of_word (a.extractLsb' 16 8) (a.extractLsb' 8 8) (a.extractLsb' 0 8) v
  simp only [addr24_of_its_bytes] at h1 h2 h3 h4
  simp only [layoutA3, layoutG, h1, h2, h3, h4]

theorem addr24_shift_or_byte (a : Addr24) (v : Byte) : (a.setWidth 32 <<< 8) ||| v.setWidth 32 = (a ++ v : Word) := by
  ext i hi
  simp only [BitVec.getElem_or, BitVec.getElem_shiftLeft, BitVec.getElem_setWidth]
  grind

/-- Settles O5: A3's address and value are G's parameter; the decoder keeps the two operations apart. -/
theorem layoutA3IsLayoutG : Obligations.LayoutA3IsLayoutG := by
  refine ⟨fun op a v s => by rw [addr24_shift_or_byte, layoutA3_eq_layoutG], fun cfg f hf => ?_⟩
  obtain ⟨hg, ha⟩ := decodeBuilt_of_reserved_zero hf
  exact ⟨_, _, by simp, hg, ha⟩

/-- Settles O8: both profiles use the two layouts with their own opcodes and sub-parameters. -/
theorem profileFrames : Obligations.ProfileFrames := by
  refine fun cfg => ⟨fun hp => ⟨fun a => ?_, fun a d => ⟨?_, fun k hk => ?_⟩⟩, fun hp => ⟨fun a => ?_, fun a d k => ?_⟩⟩
  · simp [readFrame, hp, Frame.bytes, layoutG]
  · simp [cycleFrame, hp, Frame.bytes, layoutA3, subop]
  · have hsub : ∀ k ∈ [CycleKind.erase, .ident, .reset], subop k = 0x01 := by decide
    simp [cycleFrame, hp, Frame.bytes, layoutA3, hsub k hk]
  · simp only [readFrame, hp, Frame.w64_layoutG]
  · simp only [cycleFrame, hp, Frame.w64_layoutA3]

/-! ### Every word decoded is the encoder's word (R82, R90) -/

/-- A fixed position takes the word of its cycle and no other. -/
theorem fixedCycle_ofWord_eq_ok_iff {expected : Cycle} {cw : Word} {i j : Instr} :
    fixedCycle expected (Cycle.ofWord cw) i = .ok j ↔ expected.word = cw ∧ i = j := by
  have hw : Cycle.ofWord cw = expected ↔ expected.word = cw :=
    ⟨fun h => h ▸ Cycle.word_ofWord cw, fun h => h ▸ Cycle.ofWord_word expected⟩
  unfold fixedCycle
  split <;> simp_all

theorem encode_of_decodeBuilt (cfg : Config) {l : Layout} {f : Frame} {i : Instr} (h : decodeBuilt l f = .ok i) :
    encode cfg i = .built l f := by
  unfold decodeBuilt at h
  split at h
  · cases h
  next hres =>
    have h7 : f.f7 = 0 := not_not.mp hres
    split at h <;> cases h
    · exact congrArg _ (layoutG_of_bytes h7)
    · exact congrArg _ (layoutA3_of_bytes h7)

theorem encode_of_decodeCycle {cfg : Config} {k : CycleKind} {pos : Nat} {cw : Word} {i : Instr}
    (h : decodeCycle cfg k pos cw = .ok i) : encode cfg i = .cycle k pos cw := by
  unfold decodeCycle at h
  dsimp only at h
  split at h
  case h_4 | h_9 | h_16 => cases h
  case h_8 => cases h; exact congrArg _ (Cycle.word_ofWord cw)
  case h_15 =>
    split at h <;> cases h
    next hdata =>
      have hword : Cycle.word ⟨(Cycle.ofWord cw).addr, eraseTerminator⟩ = cw := by
        rw [← hdata]; exact Cycle.word_ofWord cw
      exact congrArg _ hword
  case h_17 =>
    split at h
    next e he =>
      split at h
      next hj =>
        obtain ⟨rfl, rfl⟩ := fixedCycle_ofWord_eq_ok_iff.mp h
        have hpos : (BitVec.ofNat 3 pos).toNat = pos := toNat_ofNat_of_lt hj
        simp [encode, hpos, he]
      · cases h
    · cases h
  all_goals
    obtain ⟨rfl, rfl⟩ := fixedCycle_ofWord_eq_ok_iff.mp h
    rfl

theorem encode_of_decodeSent {cfg : Config} {u : FrameUse} {f : Frame} {i : Instr} (h : decodeSent cfg u f = .ok i) :
    encode cfg i = .sent u f := by
  unfold decodeSent at h
  split at h
  · cases h
  next hres =>
    have h7 : f.f7 = 0 := not_not.mp hres
    have hG := layoutG_of_bytes h7
    have hA := layoutA3_of_bytes h7
    split at h <;> split at h
    case h_1.isTrue hbytes =>
      cases h
      obtain ⟨h0, h5, h6⟩ := hbytes
      rw [h0, h5, h6] at hG
      exact congrArg _ hG
    case h_2.isTrue hbytes =>
      obtain ⟨h0, h6⟩ := hbytes
      rw [h0, h6] at hA
      split at h
      next h5 => cases h; rw [h5] at hA; exact congrArg _ hA
      · split at h <;> cases h
        next h5 => rw [h5] at hA; exact congrArg _ hA
    case h_3.isTrue => cases h; exact congrArg _ hG
    case h_4.isTrue => cases h; exact congrArg _ hA
    all_goals cases h

/-- Settles O2: each place's decoder answers only what the encoder puts there. -/
theorem encodeInvertsDecode : Obligations.EncodeInvertsDecode := by
  intro cfg c i h
  cases c with
  | request w => exact encode_of_decodeRequest cfg h
  | cycle k pos cw => exact encode_of_decodeCycle h
  | built l f => exact encode_of_decodeBuilt cfg h
  | sent u f => exact encode_of_decodeSent h

/-! ### Every well-formed instruction is read back (R84 to R87, R90) -/

/-- The decoder reads no capacity, so well-formedness for the largest flash window is enough. -/
theorem decode_encode {cfg : Config} {i : Instr} (h : i.wf { cfg with capacity := 2 ^ 24 } = true) :
    decode cfg (encode cfg i) = .ok i := by
  cases i <;> simp only [Instr.wf, beq_iff_eq, Bool.and_eq_true, decide_eq_true_eq] at h
  case frameG => exact decodeBuilt_layoutG _ _ _
  case frameA3 => exact decodeBuilt_layoutA3 _ _ _ _
  case encRead | encCycleSub01 | encCycleProgram => simp [encode, decode, decodeSent, h, layoutG, layoutA3]
  case plainRead | plainCycle =>
    obtain ⟨⟨hp, rfl⟩, rfl⟩ := h
    simp [encode, decode, decodeSent, hp, layoutG, layoutA3]
  case resetReset j =>
    have hj : cfg.resetSeq[j.toNat]? = some cfg.resetSeq[j.toNat] := by simp [h]
    have hlt : j.toNat < 8 := j.isLt
    simp [encode, decode, decodeCycle, fixedCycle, hj, hlt]
  case identUnlock1 | identUnlock2 | identIdEntry | programUnlock1 | programUnlock2 | programProgSetup |
      programProgData | eraseErasePre0 | eraseErasePre1 | eraseErasePre2 | eraseErasePre3 | eraseErasePre4 |
      eraseSectorErase =>
    simp [encode, decode, decodeCycle, fixedCycle]
  all_goals rfl

/-- What is well formed for some flash window is so for the largest one: an address has 24 bits. -/
theorem wf_at_full_capacity {cfg : Config} {i : Instr} (h : i.wf cfg = true) :
    i.wf { cfg with capacity := 2 ^ 24 } = true := by
  cases i
  case programProgData pa pd => exact decide_eq_true pa.isLt
  case eraseSectorErase sa => exact decide_eq_true sa.isLt
  all_goals exact h

/-- Settles O1: the encoder's word for each row, taken apart again by the decoder of its place. -/
theorem decodeInvertsEncode : Obligations.DecodeInvertsEncode :=
  fun _ _ h => decode_encode (wf_at_full_capacity h)

theorem decode_of_encode {cfg : Config} {c : Code} {i : Instr} (hc : encode cfg i = c)
    (h : i.wf { cfg with capacity := 2 ^ 24 } = true) : decode cfg c = .ok i :=
  hc ▸ decode_encode h

/-- Settles O4: the words are the encoder's for their instructions, whatever the capacity. -/
theorem writtenOutWordsDecode : Obligations.WrittenOutWordsDecode := by
  intro cfg hp
  have hprofile : (cfg.profile == .enc) = true := by simp [hp]
  exact ⟨decode_of_encode rfl rfl, decode_of_encode rfl rfl, decode_of_encode rfl rfl,
    decode_of_encode rfl rfl, decode_of_encode rfl rfl, decode_of_encode rfl rfl,
    decode_of_encode rfl hprofile, decode_of_encode rfl hprofile, decode_of_encode rfl hprofile⟩

/-! ### The legal request words (R90) -/

/-- The 13 legal words with their operations. -/
def legalRequests : List (Word × Instr) :=
  [(0x00000001, .buildFrameG), (0x00000002, .buildFrameA3), (0x00000003, .encryptByte), (0x00000004, .decryptByte),
    (0x00000005, .encryptBuffer), (0x00000006, .identify), (0x00000007, .eraseBlock), (0x00000008, .eraseChip),
    (0x00000009, .programByte), (0x0000000A, .readFlash), (0x0000000B, .writeFlash), (0x0000000C, .shutdown),
    (0x0000001B, .writeFlashWhole)]

theorem decodeRequest_eq_ok_iff {w : Word} {i : Instr} : decodeRequest w = .ok i ↔ (w, i) ∈ legalRequests := by
  constructor
  · intro h
    have he := encode_of_decodeRequest Config.sampleEnc h
    cases i <;> cases he <;> decide
  · intro h
    have hall : ∀ p ∈ legalRequests, decodeRequest p.1 = .ok p.2 := by decide
    exact hall _ h

/-- The fields of the legal words, field by field. -/
theorem legalRequest_iff {w : Word} : (∃ i, decodeRequest w = .ok i) ↔
    (w.extractLsb' 5 27 = 0 ∧ 0x1 ≤ (w.extractLsb' 0 4).toNat ∧ (w.extractLsb' 0 4).toNat ≤ 0xC ∧
      (w.getLsbD 4 = true → (w.extractLsb' 0 4).toNat = 0xB)) := by
  constructor
  · rintro ⟨i, h⟩
    have hall : ∀ p ∈ legalRequests, p.1.extractLsb' 5 27 = 0 ∧ 0x1 ≤ (p.1.extractLsb' 0 4).toNat ∧
        (p.1.extractLsb' 0 4).toNat ≤ 0xC ∧ (p.1.getLsbD 4 = true → (p.1.extractLsb' 0 4).toNat = 0xB) := by decide
    exact hall _ (decodeRequest_eq_ok_iff.mp h)
  · rintro ⟨hres, hlo, hhi, hwhole⟩
    unfold decodeRequest
    rw [if_neg (not_not.mpr hres)]
    split
    next hbit => exact ⟨_, if_pos (hwhole hbit)⟩
    next =>
      generalize (w.extractLsb' 0 4).toNat = opsel at hlo hhi
      interval_cases opsel <;> exact ⟨_, rfl⟩

/-- Settles O3: the 13 words are listed with their operations, and the fields say the same of a word. -/
theorem thirteenRequestWordsAreLegal : Obligations.ThirteenRequestWordsAreLegal :=
  ⟨fun _ => legalRequest_iff, fun _ _ => decodeRequest_eq_ok_iff⟩

end Sys2Proof

namespace Sys2Proof.Machine

variable {s t : State}

/-! ### The reserved byte (R75) -/

theorem FormedBy.f7 {c : Config} {x : Exchange} (h : FormedBy c x) : x.frame.f7 = 0 := by
  rcases h with ⟨k, y, rfl⟩ | ⟨a, rfl⟩
  · obtain ⟨o, sub, hf⟩ := cycleFrame_eq_layoutA3 c k
    simp [hf]
  · obtain ⟨o, sub, hf⟩ := readFrame_eq_layoutG c
    simp [hf]

/-- The reserved byte of all sent frames is 0. -/
def State.SentReservedZero (s : State) : Prop := ∀ x ∈ s.sent, x.frame.f7 = 0

theorem State.SentReservedZero.fcbStep (h : s.SentReservedZero) (he : fcbStep s = .next t) : t.SentReservedZero := by
  obtain ⟨hsent, -, -, hformed⟩ := everyStepSendsAtMostTheNextFrame s t he
  intro x hx
  rw [hsent, List.mem_append, Option.mem_toList] at hx
  rcases hx with hold | hnew
  · exact h x hold
  · exact FormedBy.f7 (hformed x hnew)

/-- Settles O7: no layout reaches offset 7, and a step sends at most one frame of a profile. -/
theorem reservedFrameByteIsZero : Obligations.ReservedFrameByteIsZero := by
  refine ⟨layoutG_f7, layoutA3_f7, fun cfg u f hf => if_pos hf, fun s t h hs => ?_⟩
  refine step_preserves (P := State.SentReservedZero) (fun s t _ hP he => hP.fcbStep he) (fun s t hP hk => ?_)
    (fun s hP => hP) hs h
  rw [hk]
  exact hP

/-! ### Frame rows as results (R72, R73, R110, R111) -/

/-- The model's acceptance and end, written out register by register. -/
theorem State.completeFrame_latch (w : Word) (f : Frame) :
    (s.latch w).completeFrame f =
      (s.afterAcceptance w).afterSuccess (f.w64.extractLsb' 32 32) (f.w64.extractLsb' 0 32) := by
  have hop : w.extractLsb' 0 4 = w.setWidth 4 := (BitVec.setWidth_eq_extractLsb' (by decide)).symm
  rw [State.completeFrame, Frame.high_eq_w64, Frame.low_eq_w64, State.latch, hop]
  rfl

theorem State.request_completeFrame_of_idle (hb : s.busy = false) (w : Word) (f : Frame) :
    s.request w (fun s => s.completeFrame f) =
      (s.afterAcceptance w).afterSuccess (f.w64.extractLsb' 32 32) (f.w64.extractLsb' 0 32) :=
  (State.request_of_idle w _ hb).trans (State.completeFrame_latch w f)

/-- Settles O13: an idle FCB accepts the row's request, whose result is the frame word's halves. -/
theorem frameRowsGiveTheirWord : Obligations.FrameRowsGiveTheirWord := by
  refine fun s op hb => ⟨fun p32 p16 => ?_, fun a v sub => ?_⟩
  · rw [← Frame.w64_layoutG]
    refine congrArg _ (State.request_completeFrame_of_idle ?_ _ _)
    exact hb
  · rw [← Frame.w64_layoutA3]
    refine congrArg _ (State.request_completeFrame_of_idle ?_ _ _)
    exact hb

/-! ### Cycle frame rows at the sequencer's place (R82, R84) -/

/-- In the middle of a sequence a cycle frame row is sent and moves `SEQ_IDX` only. -/
theorem State.sendCycle_of_not_last {r : Reply} {k : CycleKind} (hans : s.nextAnswer = .ok r) (ht : s.todo = .cycle k)
    (hlt : s.seqIdx.toNat + 1 < s.sequenceLength k) (f : Frame) (a : Addr24) :
    s.sendCycle f a State.cycleFrameSent = { s.afterSend f 0 s.cfg.tCycle with seqIdx := s.seqIdx + 1 } := by
  have hidx : BitVec.ofNat 3 (s.seqIdx.toNat + 1) = s.seqIdx + 1 := by simp [BitVec.ofNat_add]
  have hplace : (s.send f 0 s.cfg.tCycle).cycleFrameSent =
      (s.send f 0 s.cfg.tCycle).cycleSent k (s.seqIdx.toNat + 1) := by
    simp [State.cycleFrameSent, ht]
  have hne : s.seqIdx.toNat + 1 ≠ (s.send f 0 s.cfg.tCycle).sequenceLength k := by cases k <;> exact hlt.ne
  rw [State.sendCycle_ok hans, hplace, State.cycleSent_of_not_last hne, hidx]
  rfl

/-- Settles O28: the three rows differ in their bytes only. -/
theorem cycleFrameRowsAdvance : Obligations.CycleFrameRowsAdvance := by
  rintro s r k n hans ht rfl hmid o a d sub
  have hlt : s.seqIdx.toNat + 1 < s.sequenceLength k := by cases k <;> exact hmid
  have hrow (f : Frame) := State.sendCycle_of_not_last hans ht hlt f a
  exact ⟨congrArg _ (hrow _), congrArg _ (hrow _), congrArg _ (hrow _)⟩

/-- A row sent as a cycle frame is one `Send` of that frame at the sequencer's place; `a` is the frame's address. -/
theorem exec_of_encode_sent_cycle {row : Instr} {f : Frame} (h : encode s.cfg row = .sent .cycle f) :
    ∃ o a d sub, f = layoutA3 o a d sub ∧ exec row s = .next (s.sendCycle f a State.cycleFrameSent) := by
  cases row <;> cases h
  all_goals exact ⟨_, _, _, _, rfl, rfl⟩

theorem exec_of_encode_cycleFrame {row : Instr} {k : CycleKind} {c : Cycle}
    (h : encode s.cfg row = .sent .cycle (cycleFrame s.cfg k c)) :
    exec row s = .next (s.sendCycle (cycleFrame s.cfg k c) c.addr State.cycleFrameSent) := by
  obtain ⟨o, a, d, sub, hf, he⟩ := exec_of_encode_sent_cycle h
  obtain ⟨o', sub', hf'⟩ := cycleFrame_eq_layoutA3 s.cfg k
  obtain ⟨-, ha, -⟩ := layoutA3_inj ((hf' c).symm.trans hf)
  rw [he, ha]

theorem SendOutcome.sent_eq {ans : Answer} {a : Word} {u : State} (h : SendOutcome ans a u t) : t.sent = u.sent := by
  obtain ⟨w, hk, rfl | ⟨e, v, -, rfl⟩⟩ := h.sequencerOnly_then_abort <;> exact hk.sent

/-- The cycle at `SEQ_IDX` is the cycle step of its own cycle word: its frame tells which cycle was sent (R88). -/
theorem exec_of_cycle_at_place {k k' : CycleKind} {pos : Nat} {cw : Word} {i : Instr} (hi : s.cycleAtSeqIdx k = some i)
    (hloc : k = .program ∨ k = .erase → s.locAddr.toNat < 2 ^ 24) (hcw : encode s.cfg i = .cycle k' pos cw) :
    k' = k ∧ exec i s = .next (s.cycleStep k s.seqIdx.toNat (Cycle.ofWord cw)) := by
  obtain ⟨hsend, cw', hcw'⟩ := State.cycleAtSeqIdx_encode hi
  obtain ⟨rfl, rfl, rfl⟩ : k = k' ∧ s.seqIdx.toNat = pos ∧ cw' = cw := by simpa [hcw'] using hcw
  obtain ⟨la, c, hla, he⟩ := exec_of_cycleAtSeqIdx hi
  obtain rfl := hla hloc
  have htraffic := congrArg Prod.fst (exec_send_traffic hsend he)
  have hsent := (State.cycleStep_outcome s k s.seqIdx.toNat c).sent_eq
  have hframe : cycleFrame s.cfg k c = cycleFrame s.cfg k (Cycle.ofWord cw') := by
    simpa [State.traffic, State.trafficAfter, exchangeOf_of_encode_cycle hcw, hsent, State.send] using htraffic
  exact ⟨rfl, cycleFrame_inj hframe ▸ he⟩

/-- Settles O29: the frame row is the one `Send` of the cycle's frame, at the place the cycle stands in. -/
theorem cycleAndItsFrameAgree : Obligations.CycleAndItsFrameAgree := by
  intro s i row k pos cw hinv hi hcw hd
  cases hb : s.busy with
  | false =>
    obtain ⟨w, -, he⟩ := nextInstr_of_idle hb hi
    simp [he] at hcw
  | true =>
    rcases nextInstr_of_busy hb hi with ⟨k', ht, hk⟩ | ⟨-, rfl⟩
    · have hloc : k' = .program ∨ k' = .erase → s.locAddr.toNat < 2 ^ 24 := fun hkind =>
        (hinv.seq hb).locAddr_lt hinv.configured ⟨k', ht, hkind⟩
      obtain ⟨rfl, he⟩ := exec_of_cycle_at_place hk hloc hcw
      rw [exec_of_encode_cycleFrame (encode_of_decodeSent hd), State.sendCycle_cycleFrameSent ht, he]
    · cases hp : s.cfg.profile <;> simp [readInstr, hp, encode] at hcw

end Sys2Proof.Machine

/-! # Requests that complete in their acceptance (10_state.md R33)

Acceptance, success and abort of the model are the statements' own, register by register; what is left of a request
that completes at once is its result. -/

namespace Sys2Proof

/-! ### A layout's halves (R30, R72, R73) -/

theorem Frame.high_layoutG (op : Byte) (p32 : Word) (p16 : Half) :
    (layoutG op p32 p16).high = op ++ p32.extractLsb' 8 24 := by
  ext i hi
  simp only [Frame.high, layoutG]
  grind

theorem Frame.low_layoutG (op : Byte) (p32 : Word) (p16 : Half) :
    (layoutG op p32 p16).low = p32.extractLsb' 0 8 ++ p16 ++ (0 : Byte) := by
  ext i hi
  simp only [Frame.low, layoutG]
  grind

theorem Frame.high_layoutA3 (op : Byte) (a : Addr24) (v : Byte) (s : Half) : (layoutA3 op a v s).high = op ++ a := by
  ext i hi
  simp only [Frame.high, layoutA3]
  grind

theorem Frame.low_layoutA3 (op : Byte) (a : Addr24) (v : Byte) (s : Half) :
    (layoutA3 op a v s).low = v ++ s ++ (0 : Byte) := by
  ext i hi
  simp only [Frame.low, layoutA3]
  grind

end Sys2Proof

namespace Sys2Proof.Machine

variable {s : State}

/-! ### Acceptance and end (R33, R30, 60_exceptions.md R180) -/

theorem State.latch_eq_afterAcceptance (s : State) (w : Word) : s.latch w = s.afterAcceptance w := by
  have hop : w.extractLsb' 0 4 = w.setWidth 4 := (BitVec.setWidth_eq_extractLsb' (by decide)).symm
  rw [State.latch, hop]
  rfl

theorem State.complete_eq_afterSuccess (s : State) (r0 r1 : Word) : s.complete r0 r1 = s.afterSuccess r0 r1 := rfl

theorem State.raise_eq_afterAbort (s : State) (e : ErrCode) (v : Word) : s.raise e v = s.afterAbort e v := rfl

/-- An idle FCB runs the operation's rule on the accepted state. -/
theorem State.request_eq_afterAcceptance (hb : s.busy = false) (w : Word) (rule : State → State) :
    s.request w rule = rule (s.afterAcceptance w) := by
  rw [State.request_of_idle w rule hb, State.latch_eq_afterAcceptance]

/-! ### The CODEC's requests (40_codec.md R110, R111) -/

theorem State.completeFrame_layoutG (op : Byte) (p32 : Word) (p16 : Half) :
    s.completeFrame (layoutG op p32 p16) =
      s.afterSuccess (op ++ p32.extractLsb' 8 24) (p32.extractLsb' 0 8 ++ p16 ++ (0 : Byte)) := by
  rw [State.completeFrame, Frame.high_layoutG, Frame.low_layoutG, State.complete_eq_afterSuccess]

theorem State.completeFrame_layoutA3 (op : Byte) (a : Addr24) (v : Byte) (sub : Half) :
    s.completeFrame (layoutA3 op a v sub) = s.afterSuccess (op ++ a) (v ++ sub ++ (0 : Byte)) := by
  rw [State.completeFrame, Frame.high_layoutA3, Frame.low_layoutA3, State.complete_eq_afterSuccess]

theorem exec_buildFrameG_of_idle (hb : s.busy = false) :
    exec .buildFrameG s =
      .next ((s.afterAcceptance 0x00000001).completeFrame (s.afterAcceptance 0x00000001).frameGOperands) :=
  congrArg Host.Outcome.next (State.request_eq_afterAcceptance hb _ _)

theorem exec_buildFrameA3_of_idle (hb : s.busy = false) :
    exec .buildFrameA3 s = .next ((s.afterAcceptance 0x00000002).guarded [(s.afterAcceptance 0x00000002).addressCheck]
      fun s => s.completeFrame s.frameA3Operands) :=
  congrArg Host.Outcome.next (State.request_eq_afterAcceptance hb _ _)

/-- Settles O11: the rule builds layout G from the operand registers, which the acceptance does not write. -/
theorem buildFrameG : Obligations.BuildFrameG := by
  refine fun s => ⟨decode_of_encode rfl rfl, fun hb => ?_⟩
  rw [exec_buildFrameG_of_idle hb]
  exact congrArg _ (State.completeFrame_layoutG _ _ _)

/-- Settles O12: R181's address check decides between layout A3's frame and the abort. -/
theorem buildFrameA3 : Obligations.BuildFrameA3 := by
  intro s
  have hcheck : (s.afterAcceptance 0x00000002).addressCheck.failed = true ↔ s.arg1.extractLsb' 24 8 ≠ 0 :=
    State.addressCheck_fails
  refine ⟨decode_of_encode rfl rfl, fun hb haddr => ?_, fun hb haddr => ?_⟩
  · rw [exec_buildFrameA3_of_idle hb, State.guarded_cons, if_neg (hcheck.not.mpr (not_not.mpr haddr)),
      State.guarded_nil]
    exact congrArg _ (State.completeFrame_layoutA3 _ _ _ _)
  · rw [exec_buildFrameA3_of_idle hb, State.guarded_cons, if_pos (hcheck.mpr haddr), State.raise_eq_afterAbort]
    rfl

end Sys2Proof.Machine

/-! # The byte transform (41_transform.md)

Each transform moves bits along one table and XORs with 0x98; the table gives the inverse law and the linearity. Bit 3
keeps its place and 0x98 flips it, so neither transform has a fixed point. -/

namespace Sys2Proof

/-! ### Where each bit goes (R120, R121) -/

/-- The bit positions of R120: `encryptByte` moves its input bit `p.1` to `p.2`, and `decryptByte` moves it back. -/
def transformBits : List (Nat × Nat) := [(0, 5), (1, 4), (2, 1), (3, 3), (4, 6), (5, 7), (6, 0), (7, 2)]

theorem encryptByte_moves_bit (b : Byte) :
    ∀ p ∈ transformBits, (encryptByte b ^^^ 0x98).getLsbD p.2 = b.getLsbD p.1 := by
  simp [transformBits, encryptByte, BitVec.getElem_append (m := 1)]

theorem decryptByte_moves_bit_back (b : Byte) :
    ∀ p ∈ transformBits, (decryptByte b).getLsbD p.1 = (b ^^^ 0x98).getLsbD p.2 := by
  simp [transformBits, decryptByte, BitVec.getElem_append (m := 1)]

/-- Bytes agree when they agree at the positions a side of the table runs over, which are all eight. -/
theorem byte_eq_of_table_bits {x y : Byte} {side : Nat × Nat → Nat} (hside : ∀ i < 8, ∃ p ∈ transformBits, side p = i)
    (h : ∀ p ∈ transformBits, x.getLsbD (side p) = y.getLsbD (side p)) : x = y := by
  refine BitVec.eq_of_getLsbD_eq fun i hi => ?_
  obtain ⟨p, hp, rfl⟩ := hside i hi
  exact h p hp

/-! ### The wire directions (00_scope.md R10) -/

theorem Config.rx_of_encrypting {c : Config} (h : c.encrypting = true) (b : Byte) : c.rx b = encryptByte b := if_pos h

theorem Config.tx_of_encrypting {c : Config} (h : c.encrypting = true) (b : Byte) : c.tx b = decryptByte b := if_pos h

theorem Config.rx_of_plain {c : Config} (h : c.encrypting = false) (b : Byte) : c.rx b = b := by simp [Config.rx, h]

theorem Config.tx_of_plain {c : Config} (h : c.encrypting = false) (b : Byte) : c.tx b = b := by simp [Config.tx, h]

/-- Settles O9: R121 lists the pairs of R120's table the other way round. -/
theorem transformBitMaps : Obligations.TransformBitMaps := by
  have hback : ∀ p ∈ [(0, 6), (1, 2), (2, 7), (3, 3), (4, 1), (5, 0), (6, 4), (7, 5)], p.swap ∈ transformBits := by
    decide
  refine ⟨fun b => ⟨encryptByte_moves_bit b, fun p hp => decryptByte_moves_bit_back b p.swap (hback p hp)⟩,
    fun c b => ⟨fun h => ?_, fun h => ?_⟩⟩
  · exact ⟨Config.rx_of_encrypting h b, Config.tx_of_encrypting h b⟩
  · exact ⟨Config.rx_of_plain h b, Config.tx_of_plain h b⟩

/-! ### The inverse law (R125) -/

@[simp] theorem decryptByte_encryptByte (x : Byte) : decryptByte (encryptByte x) = x :=
  byte_eq_of_table_bits (side := Prod.fst) (by decide) fun p hp =>
    (decryptByte_moves_bit_back _ p hp).trans (encryptByte_moves_bit x p hp)

@[simp] theorem encryptByte_decryptByte (x : Byte) : encryptByte (decryptByte x) = x := by
  have hbits : encryptByte (decryptByte x) ^^^ 0x98 = x ^^^ 0x98 :=
    byte_eq_of_table_bits (side := Prod.snd) (by decide) fun p hp =>
      (encryptByte_moves_bit _ p hp).trans (decryptByte_moves_bit_back x p hp)
  exact (BitVec.xor_left_inj _).mp hbits

/-- Bit 3 stays in place, and 0x98 flips it. -/
theorem encryptByte_flips_bit3 (x : Byte) : (encryptByte x).getLsbD 3 = !x.getLsbD 3 := by
  have hmove : (encryptByte x ^^^ 0x98).getLsbD 3 = x.getLsbD 3 := encryptByte_moves_bit x (3, 3) (by decide)
  rw [← hmove]
  simp

theorem encryptByte_ne_self (x : Byte) : encryptByte x ≠ x := by
  intro h
  have hflip := encryptByte_flips_bit3 x
  rw [h] at hflip
  exact Bool.not_ne_self _ hflip.symm

theorem decryptByte_ne_self (x : Byte) : decryptByte x ≠ x := by
  intro h
  have hfix : encryptByte x = x := (congrArg encryptByte h).symm.trans (encryptByte_decryptByte x)
  exact encryptByte_ne_self x hfix

/-- Moving bits commutes with XOR; of the three XORs with 0x98 one is left over. -/
theorem encryptByte_xor (x y : Byte) : encryptByte (x ^^^ y) = encryptByte x ^^^ encryptByte y ^^^ 0x98 := by
  have hbits : encryptByte (x ^^^ y) ^^^ 0x98 = (encryptByte x ^^^ 0x98) ^^^ (encryptByte y ^^^ 0x98) :=
    byte_eq_of_table_bits (side := Prod.snd) (by decide) fun p hp => by
      rw [encryptByte_moves_bit _ p hp, BitVec.getLsbD_xor, BitVec.getLsbD_xor, encryptByte_moves_bit x p hp,
        encryptByte_moves_bit y p hp]
  rw [← BitVec.xor_left_inj 0x98, hbits]
  ac_rfl

/-- Settles O10: the table inverts, bit 3 is flipped in place, and moving bits is linear. -/
theorem transformInverseLaw : Obligations.TransformInverseLaw :=
  ⟨fun x => ⟨decryptByte_encryptByte x, encryptByte_decryptByte x⟩,
    fun x => ⟨encryptByte_ne_self x, decryptByte_ne_self x⟩, encryptByte_xor⟩

/-! ### A byte in a result register (R122, R123) -/

theorem byte_setWidth_word (b : Byte) : b.setWidth 32 = (0 : BitVec 24) ++ b := BitVec.setWidth_eq_append (by decide)

end Sys2Proof

namespace Sys2Proof.Machine

variable {s : State}

/-! ### The XFORM's requests (R122 to R124) -/

/-- A request whose result is a byte of `ARG0[7:0]`, which the acceptance does not write. -/
theorem State.request_completes_with_byte (hb : s.busy = false) (w : Word) (f : Byte → Byte) :
    (s.request w fun s => s.complete ((f s.byteOperand).setWidth 32) 0) =
      (s.afterAcceptance w).afterSuccess ((0 : BitVec 24) ++ f (s.arg0.extractLsb' 0 8)) 0 := by
  rw [State.request_eq_afterAcceptance hb, byte_setWidth_word, State.complete_eq_afterSuccess]
  rfl

/-- Settles O14: both rules complete with the transform of `ARG0[7:0]`, widened with zeros. -/
theorem byteTransformRequests : Obligations.ByteTransformRequests := fun _ hb =>
  ⟨congrArg Host.Outcome.next (State.request_completes_with_byte hb _ encryptByte),
    congrArg Host.Outcome.next (State.request_completes_with_byte hb _ decryptByte)⟩

theorem exec_encryptBuffer_of_idle (hb : s.busy = false) :
    exec .encryptBuffer s = .next ((s.afterAcceptance 0x00000005).guarded [(s.afterAcceptance 0x00000005).payloadCheck]
      fun s => { s with out := s.aData.map encryptByte, dataOut := s.aData.map encryptByte }.complete s.aLen 0) :=
  congrArg Host.Outcome.next (State.request_eq_afterAcceptance hb _ _)

/-- Settles O15: R181's payload check decides between the encrypted bytes and the abort. -/
theorem encryptBuffer : Obligations.EncryptBuffer := by
  intro s hb
  have hcheck : (s.afterAcceptance 0x00000005).payloadCheck.failed = true ↔ s.dataIn.length ≠ s.arg1.toNat :=
    State.payloadCheck_fails
  rw [exec_encryptBuffer_of_idle hb, State.guarded_cons]
  refine ⟨fun hlen => ⟨s.dataIn.map encryptByte, ?_, fun k hk => ?_, ?_⟩, fun hlen => ?_⟩
  · rw [List.length_map, hlen]
  · rw [List.getElem?_map, List.getElem?_eq_getElem hk, Option.map_some]
  · rw [if_neg (hcheck.not.mpr (not_not.mpr hlen)), State.guarded_nil]
    rfl
  · rw [if_pos (hcheck.mpr hlen), State.raise_eq_afterAbort]
    rfl

end Sys2Proof.Machine

/-! # Identification (42_identification.md)

A cycle row is one `Send` and what follows its place in the sequence; IDENTIFY from its request to its end is the run of
two such sequences with the ID read between them. -/

namespace Sys2Proof.Machine

variable {s t : State}

/-! ### SHUTDOWN and the acceptance of IDENTIFY (R130, R131) -/

/-- Settles O16: the rule runs on the accepted state, and its completion is the end with no results. -/
theorem shutdown : Obligations.Shutdown := fun _ hb =>
  congrArg Host.Outcome.next (State.request_eq_afterAcceptance hb _ _)

/-- Settles O17: no acceptance check stands before the rule, whatever `DIALECT` is. -/
theorem identifyDiscardsAndBegins : Obligations.IdentifyDiscardsAndBegins := fun _ hb =>
  congrArg Host.Outcome.next (State.request_eq_afterAcceptance hb _ _)

/-! ### A cycle or a read that is answered (R130, 43_flash_programming.md R144, R145) -/

theorem State.cycleStep_of_ok {r : Reply} (hans : s.nextAnswer = .ok r) (k : CycleKind) (pos : Nat) (c : Cycle) :
    s.cycleStep k pos c = (s.afterSend (cycleFrame s.cfg k c) 0 s.cfg.tCycle).cycleSent k (pos + 1) :=
  State.sendCycle_ok hans _ _ _

/-- What a cycle before the last of its sequence leaves: its traffic done, and `SEQ_IDX` past its position. -/
def State.afterCycle (k : CycleKind) (pos : Nat) (c : Cycle) (s : State) : State :=
  { s.afterSend (cycleFrame s.cfg k c) 0 s.cfg.tCycle with seqIdx := BitVec.ofNat 3 (pos + 1) }

theorem State.cycleStep_of_not_last {r : Reply} {k : CycleKind} {pos : Nat} (hans : s.nextAnswer = .ok r)
    (h : pos + 1 ≠ s.sequenceLength k) (c : Cycle) : s.cycleStep k pos c = s.afterCycle k pos c := by
  have h' : pos + 1 ≠ (s.afterSend (cycleFrame s.cfg k c) 0 s.cfg.tCycle).sequenceLength k := by cases k <;> exact h
  rw [State.cycleStep_of_ok hans, State.cycleSent_of_not_last h']
  rfl

/-- Settles O24: none of the ten is its sequence's last cycle. -/
theorem cycleRowsAdvance : Obligations.CycleRowsAdvance := by
  intro s r hans
  have hrow (k : CycleKind) (pos : Nat) (c : Cycle) (h : pos + 1 ≠ s.sequenceLength k) :=
    congrArg (Host.Outcome.next (φ := Fault) (ρ := Refusal)) (State.cycleStep_of_not_last hans h c)
  refine ⟨hrow .ident 0 unlock1 ?_, hrow .ident 1 unlock2 ?_,
    hrow .program 0 unlock1 ?_, hrow .program 1 unlock2 ?_, hrow .program 2 progSetup ?_,
    hrow .erase 0 _ ?_, hrow .erase 1 _ ?_, hrow .erase 2 _ ?_, hrow .erase 3 _ ?_, hrow .erase 4 _ ?_⟩
  all_goals simp [State.sequenceLength]

/-- Settles O25: behind its last cycle the identification sequence reads, and the program sequence polls. -/
theorem lastCyclesLeadToTheirRead : Obligations.LastCyclesLeadToTheirRead := fun s _ hans =>
  ⟨congrArg Host.Outcome.next (State.cycleStep_of_ok hans .ident 2 idEntry), fun pa pd =>
    congrArg Host.Outcome.next
      (State.cycleStep_of_ok (s := { s with locAddr := pa.setWidth 32, locVal := pd }) hans .program 3 ⟨pa, pd⟩)⟩

theorem exec_of_isRead {i : Instr} {a : Word} {f : Frame} (h : IsRead i a f) :
    exec i s = .next (s.sendRead f a State.readDone) := by
  cases h <;> rfl

theorem State.sendRead_of_ident {r : Reply} (hans : s.nextAnswer = .ok r) (hf : s.fsm = .ident) (f : Frame) (a : Word) :
    s.sendRead f a State.readDone = (s.afterSend f 4 s.cfg.tRead).idRead r := by
  have hf' : (s.send f 4 s.cfg.tRead).fsm = .ident := hf
  rw [State.sendRead_ok hans, State.readDone, hf']
  rfl

/-- Settles O30: in `FSM = IDENT` the response is the identity, little-endian as it stands. -/
theorem identificationReadKeepsTheIdentity : Obligations.IdentificationReadKeepsTheIdentity := by
  intro s r i a f hans hread hf
  rw [exec_of_isRead hread, State.sendRead_of_ident hans hf]
  rfl

/-! ### The reset cycles and the allow-list (R130, R132) -/

/-- The allow-list check by membership (R132). -/
theorem isSupported_iff_mem (c : Config) (id : Word) :
    c.isSupported id = true ↔ id.extractLsb' 0 16 ∈ c.supportedIds := by
  simp [Config.isSupported]

theorem State.cycleSent_of_supported (h : s.locId.extractLsb' 0 16 ∈ s.cfg.supportedIds) :
    s.cycleSent .reset s.cfg.resetSeq.length =
      { s with seqIdx := BitVec.ofNat 3 s.cfg.resetSeq.length, todo := .complete } :=
  (if_pos rfl).trans (if_pos ((isSupported_iff_mem _ _).mpr h))

theorem State.cycleSent_of_unsupported (h : s.locId.extractLsb' 0 16 ∉ s.cfg.supportedIds) :
    s.cycleSent .reset s.cfg.resetSeq.length =
      { s with seqIdx := BitVec.ofNat 3 s.cfg.resetSeq.length }.afterAbort .unsupportedChip s.locId :=
  (if_pos rfl).trans (if_neg ((isSupported_iff_mem _ _).not.mpr h))

theorem exec_resetReset {j : BitVec 3} {c : Cycle} (hc : s.cfg.resetSeq[j.toNat]? = some c) :
    exec (.resetReset j) s = .next (s.cycleStep .reset j.toNat c) := by
  simp [exec, execResetReset, hc]

/-- Settles O27: behind the last reset cycle the allow-list decides. -/
theorem resetCyclesThenSupportCheck : Obligations.ResetCyclesThenSupportCheck := by
  intro s r j c hans hc _
  have hidx : BitVec.ofNat 3 (j.toNat + 1) = j + 1 := by simp [BitVec.ofNat_add]
  rw [exec_resetReset hc, ← hidx]
  refine ⟨fun hlt => ?_, fun hlast hs => ?_, fun hlast hs => ?_⟩
  · rw [State.cycleStep_of_not_last (k := .reset) hans hlt.ne]
    rfl
  · rw [State.cycleStep_of_ok hans, hlast]
    exact congrArg _ (State.cycleSent_of_supported (s := s.afterSend (cycleFrame s.cfg .reset c) 0 s.cfg.tCycle) hs)
  · rw [State.cycleStep_of_ok hans, hlast]
    exact congrArg _ (State.cycleSent_of_unsupported (s := s.afterSend (cycleFrame s.cfg .reset c) 0 s.cfg.tCycle) hs)

/-! ### Runs of an FCB the host leaves alone (00_scope.md R7) -/

theorem run_of_step (h : step s = .next t) (n : Nat) : core.run (n + 1) s = core.run n t := by
  have h : core.step s = .next t := h
  simp only [Host.Core.run, h]

theorem run_of_complete (hcfg : s.cfg.WF) (hhost : s.host = []) (hb : s.busy = true) (ht : s.todo = .complete) :
    core.run 1 s = .next s.completion :=
  run_of_step (step_of_complete hcfg hhost hb ht) 0

/-- The traffic of several answered `Send`s. -/
def State.afterSends (xs : List Exchange) (s : State) : State :=
  { s with answers := s.answers.drop xs.length, sends := s.sends + xs.length, sent := s.sent ++ xs }

theorem State.afterSend_afterSends (x : Exchange) (xs : List Exchange) :
    (s.afterSend x.frame x.respLen x.timing).afterSends xs = s.afterSends (x :: xs) := by
  simp [State.afterSends, State.afterSend, Nat.add_assoc, Nat.add_comm 1]

theorem State.afterSends_nil : s.afterSends [] = s := by simp [State.afterSends]

/-! ### A fixed sequence from a position to its end (30_encoding.md R77 to R81) -/

/-- The cycles of the sequence of kind `k`. -/
def State.sequence (s : State) : CycleKind → List Cycle
  | .ident => [unlock1, unlock2, idEntry]
  | .program => [unlock1, unlock2, progSetup, ⟨s.locAddr.setWidth 24, s.locVal⟩]
  | .erase =>
    [s.cfg.erasePreamble.c0, s.cfg.erasePreamble.c1, s.cfg.erasePreamble.c2, s.cfg.erasePreamble.c3,
      s.cfg.erasePreamble.c4, ⟨s.locAddr.setWidth 24, eraseTerminator⟩]
  | .reset => s.cfg.resetSeq

theorem State.length_sequence (k : CycleKind) : (s.sequence k).length = s.sequenceLength k := by
  cases k <;> rfl

theorem State.sequence_afterCycle (k : CycleKind) (pos : Nat) (c : Cycle) :
    (s.afterCycle k pos c).sequence k = s.sequence k := by
  cases k <;> rfl

theorem State.afterCycle_seqIdx (k : CycleKind) (pos : Nat) (c : Cycle) :
    (s.afterCycle k pos c).seqIdx = BitVec.ofNat 3 (pos + 1) := rfl

theorem State.sequenceLength_le_six {k : CycleKind} (hcfg : s.cfg.WF) : s.sequenceLength k ≤ 6 := by
  obtain ⟨-, -, -, ⟨-, hsix⟩, -⟩ := hcfg
  cases k
  case reset => exact hsix
  all_goals simp [State.sequenceLength]

/-- `SEQ_IDX` selects the sequence's cycle at that position. -/
theorem State.encode_of_sequence {k : CycleKind} {c : Cycle} (hc : (s.sequence k)[s.seqIdx.toNat]? = some c) :
    ∃ i, s.cycleAtSeqIdx k = some i ∧ encode s.cfg i = .cycle k s.seqIdx.toNat c.word := by
  have hlt : s.seqIdx.toNat < s.sequenceLength k := by
    rw [← State.length_sequence]
    exact (List.getElem?_eq_some_iff.mp hc).1
  obtain ⟨i, hi⟩ := Option.isSome_iff_exists.mp ((State.cycleAtSeqIdx_isSome k).mpr hlt)
  refine ⟨i, hi, ?_⟩
  unfold State.cycleAtSeqIdx at hi
  split at hi
  case h_17 =>
    obtain ⟨-, rfl⟩ : s.seqIdx.toNat < s.cfg.resetSeq.length ∧ .resetReset s.seqIdx = i := by simpa using hi
    have hc : s.cfg.resetSeq[s.seqIdx.toNat]? = some c := hc
    simp [encode, hc]
  all_goals cases hi
  all_goals
    rename_i hpos
    rw [hpos] at hc ⊢
    cases hc
    rfl

/-- A busy FCB in a sequence makes the cycle step of the sequence's cycle at `SEQ_IDX`. -/
theorem step_of_sequence {k : CycleKind} {c : Cycle} (hcfg : s.cfg.WF) (hhost : s.host = []) (hb : s.busy = true)
    (ht : s.todo = .cycle k) (hloc : k = .program ∨ k = .erase → s.locAddr.toNat < 2 ^ 24)
    (hc : (s.sequence k)[s.seqIdx.toNat]? = some c) : step s = .next (s.cycleStep k s.seqIdx.toNat c) := by
  obtain ⟨i, hi, hcw⟩ := State.encode_of_sequence hc
  obtain ⟨-, he⟩ := exec_of_cycle_at_place hi hloc hcw
  rw [step_of_no_host hcfg hhost, fcbStep_of_nextInstr ((nextInstr_of_cycle hb ht).trans hi), he, Cycle.ofWord_word]

/-- What the cycle `c` of a sequence of kind `k` hands to the transport (30_encoding.md R84, R85). -/
def cycleExchange (cfg : Config) (k : CycleKind) (c : Cycle) : Exchange := ⟨cycleFrame cfg k c, 0, cfg.tCycle⟩

/-- With answers that do not fail, a sequence sends its cycles in order from `SEQ_IDX` on, and what follows its last cycle
comes next. -/
theorem run_sequence {k : CycleKind} {cs : List Cycle} {rs : List Reply} {rest : List Answer} (hcfg : s.cfg.WF)
    (hhost : s.host = []) (hb : s.busy = true) (ht : s.todo = .cycle k)
    (hloc : k = .program ∨ k = .erase → s.locAddr.toNat < 2 ^ 24) (hcs : (s.sequence k).drop s.seqIdx.toNat = cs)
    (hne : cs ≠ []) (hlen : rs.length = cs.length) (hans : s.answers = rs.map .ok ++ rest) (n : Nat) :
    core.run (cs.length + n) s =
      core.run n ((s.afterSends (cs.map (cycleExchange s.cfg k))).cycleSent k (s.sequenceLength k)) := by
  induction cs generalizing s rs with
  | nil => exact absurd rfl hne
  | cons c cs ih =>
    obtain ⟨r, rs, rfl⟩ := List.exists_cons_of_length_eq_add_one hlen
    have hnext : s.nextAnswer = .ok r := State.nextAnswer_cons hans
    obtain ⟨hc, hdrop⟩ : (s.sequence k)[s.seqIdx.toNat]? = some c ∧ (s.sequence k).drop (s.seqIdx.toNat + 1) = cs := by
      refine ⟨?_, ?_⟩
      · rw [← List.head?_drop, hcs, List.head?_cons]
      · rw [← List.tail_drop, hcs, List.tail_cons]
    have hlast : s.sequenceLength k = s.seqIdx.toNat + 1 + cs.length := by
      have := congrArg List.length hcs
      simp only [List.length_drop, State.length_sequence, List.length_cons] at this
      omega
    rw [List.length_cons, Nat.add_right_comm, run_of_step (step_of_sequence hcfg hhost hb ht hloc hc),
      List.map_cons, ← State.afterSend_afterSends]
    cases cs with
    | nil =>
      rw [State.cycleStep_of_ok hnext, hlast, List.map_nil, State.afterSends_nil, List.length_nil, Nat.zero_add]
      rfl
    | cons d ds =>
      have hsix := State.sequenceLength_le_six (k := k) hcfg
      simp only [List.length_cons] at hlast
      have hidx : (BitVec.ofNat 3 (s.seqIdx.toNat + 1)).toNat = s.seqIdx.toNat + 1 := toNat_ofNat_of_lt (by omega)
      rw [State.cycleStep_of_not_last hnext (by omega)]
      have hrest : ((s.afterCycle k s.seqIdx.toNat c).sequence k).drop (s.afterCycle k s.seqIdx.toNat c).seqIdx.toNat =
          d :: ds := by
        rw [State.sequence_afterCycle, State.afterCycle_seqIdx, hidx, hdrop]
      rw [ih (s := s.afterCycle k s.seqIdx.toNat c) hcfg hhost hb ht hloc hrest (List.cons_ne_nil d ds)
        (Nat.succ.inj hlen) (congrArg List.tail hans)]
      cases k <;> rfl

/-! ### IDENTIFY from its request to its end (R130, R132, R133, R135) -/

theorem step_of_idRead {r : Reply} (hcfg : s.cfg.WF) (hhost : s.host = []) (hb : s.busy = true) (ht : s.todo = .read)
    (hf : s.fsm = .ident) (hans : s.nextAnswer = .ok r) :
    step s = .next ((s.afterSend (readFrame s.cfg s.cur) 4 s.cfg.tRead).idRead r) := by
  rw [step_of_no_host hcfg hhost, fcbStep_of_nextInstr (nextInstr_of_read hb ht), exec_readInstr,
    State.sendRead_of_ident hans hf]

/-- What IDENTIFY's acceptance leaves. -/
def State.identifyAccepted (s : State) : State :=
  { s.afterAcceptance 0x00000006 with
    busy := true, dialect := .none, chipId := 0, fsm := .ident, seqIdx := 0, todo := .cycle .ident }

theorem step_of_identify (hcfg : s.cfg.WF) (hhost : s.host = []) (hb : s.busy = false)
    (hheld : s.held = some 0x00000006) : step s = .next s.identifyAccepted := by
  have hi : s.nextInstr = some .identify := by rw [nextInstr_of_held hb hheld]; rfl
  rw [step_of_no_host hcfg hhost, fcbStep_of_nextInstr hi, identifyDiscardsAndBegins s hb]
  rfl

theorem resetSeq_ne_nil {c : Config} (h : c.WF) : c.resetSeq ≠ [] := by
  obtain ⟨-, -, -, ⟨hpos, -⟩, -⟩ := h
  exact List.ne_nil_of_length_pos hpos

/-- IDENTIFY after its three cycles, before the ID read. -/
def State.atIdRead (s : State) : State :=
  { s.identifyAccepted.afterSends ([unlock1, unlock2, idEntry].map (cycleExchange s.cfg .ident)) with
    seqIdx := 3, cur := s.cfg.idReadAddr, todo := .read }

/-- IDENTIFY after the ID read that was answered `r`, before its reset cycles. -/
def State.atResets (r : Reply) (s : State) : State :=
  (s.atIdRead.afterSend (readFrame s.cfg s.cfg.idReadAddr) 4 s.cfg.tRead).idRead r

/-- IDENTIFY with its last frame sent, before the allow-list check. -/
def State.resetsSent (r : Reply) (s : State) : State :=
  (s.atResets r).afterSends (s.cfg.resetSeq.map (cycleExchange s.cfg .reset))

/-- IDENTIFY's exchanges in order: the identification cycles, the read, the reset cycles (R130). -/
def identifyExchanges (cfg : Config) : List Exchange :=
  [unlock1, unlock2, idEntry].map (cycleExchange cfg .ident) ++ [⟨readFrame cfg cfg.idReadAddr, 4, cfg.tRead⟩] ++
    cfg.resetSeq.map (cycleExchange cfg .reset)

theorem State.resetsSent_sent {r : Reply} : (s.resetsSent r).sent = s.sent ++ identifyExchanges s.cfg := by
  simp only [identifyExchanges, ← List.append_assoc]
  rfl

/-- With answers that do not fail, IDENTIFY sends its cycles, its read and its reset cycles and comes to the allow-list
check. -/
theorem run_identify {c0 c1 c2 r : Reply} {resets : List Reply} {rest : List Answer} (hcfg : s.cfg.WF)
    (hhost : s.host = []) (hb : s.busy = false) (hheld : s.held = some 0x00000006)
    (hlen : resets.length = s.cfg.resetSeq.length)
    (hans : s.answers = [.ok c0, .ok c1, .ok c2, .ok r] ++ resets.map Answer.ok ++ rest) (n : Nat) :
    core.run (resets.length + 5 + n) s = core.run n ((s.resetsSent r).cycleSent .reset s.cfg.resetSeq.length) := by
  have hcycles (n : Nat) : core.run (3 + n) s.identifyAccepted = core.run n s.atIdRead :=
    run_sequence (s := s.identifyAccepted) (k := .ident) (rs := [c0, c1, c2]) hcfg hhost rfl rfl (by simp) rfl
      (List.cons_ne_nil _ _) rfl (hans.trans (List.append_assoc _ _ _)) n
  have hread : s.atIdRead.answers = .ok r :: (resets.map .ok ++ rest) := congrArg (List.drop 3) hans
  have hidRead : step s.atIdRead = .next (s.atResets r) :=
    step_of_idRead hcfg hhost rfl rfl rfl (State.nextAnswer_cons hread)
  have hresets : core.run (s.cfg.resetSeq.length + n) (s.atResets r) =
      core.run n ((s.resetsSent r).cycleSent .reset s.cfg.resetSeq.length) :=
    run_sequence (s := s.atResets r) (k := .reset) hcfg hhost rfl rfl (by simp) rfl
      (resetSeq_ne_nil hcfg) hlen (congrArg List.tail hread) n
  calc core.run (resets.length + 5 + n) s
    _ = core.run (3 + (s.cfg.resetSeq.length + n + 1) + 1) s := by rw [hlen]; congr 1; omega
    _ = core.run (s.cfg.resetSeq.length + n + 1) s.atIdRead := by
      rw [run_of_step (step_of_identify hcfg hhost hb hheld), hcycles]
    _ = core.run n ((s.resetsSent r).cycleSent .reset s.cfg.resetSeq.length) := by
      rw [run_of_step hidRead, hresets]

/-- Settles O59: the identity behind the last frame decides between the completion and the abort. -/
theorem identifySelectsTheDialectOrNothing : Obligations.IdentifySelectsTheDialectOrNothing := by
  intro s c0 c1 c2 r resets rest hcfg hhost hb hheld hlen hans
  have hrun := run_identify hcfg hhost hb hheld hlen hans
  refine ⟨fun hs => ?_, fun hs => ?_⟩
  · have hcheck := State.cycleSent_of_supported (s := s.resetsSent r) hs
    have hend := (hrun 1).trans ((congrArg (core.run 1) hcheck).trans (run_of_complete hcfg hhost rfl rfl))
    exact ⟨_, hend, rfl, rfl, rfl, rfl, rfl, rfl, State.resetsSent_sent, dialectOf_eq_ite_mem _ _⟩
  · have hcheck := State.cycleSent_of_unsupported (s := s.resetsSent r) hs
    have hend := (hrun 0).trans (congrArg (core.run 0) hcheck)
    exact ⟨_, hend, rfl, rfl, rfl, rfl, rfl, rfl, rfl, State.resetsSent_sent⟩

end Sys2Proof.Machine

/-! # Flash programming (43_flash_programming.md)

The words and blocks of a window; the openings of the flash operations and the steps of their bodies; READ_FLASH and
PROGRAM_BYTE from request to end, the latter also in front of the chip double; and a rank that every step of an operation
lowers, by which every operation ends. -/

namespace Sys2Proof

/-! ### The aligned words of a window (R142) -/

theorem mem_alignedWords {o l w : Nat} : w ∈ alignedWords o l ↔ o ≤ w ∧ w < o + l ∧ w % 4 = 0 := by
  simp only [alignedWords, List.mem_filter, List.mem_map, List.mem_range, decide_eq_true_eq]
  constructor
  · rintro ⟨⟨k, hk, rfl⟩, h4⟩
    omega
  · rintro ⟨hlo, hhi, h4⟩
    exact ⟨⟨w - o, by omega, by omega⟩, h4⟩

theorem alignedWords_pairwise (o l : Nat) : (alignedWords o l).Pairwise (· < ·) :=
  .filter _ (List.pairwise_lt_range.map _ fun _ _ h => Nat.add_lt_add_left h o)

/-- The search finds the least aligned word at or after `o`. -/
theorem nextAligned_eq_some_iff {o stop w : Nat} :
    nextAligned o stop = some w ↔ w % 4 = 0 ∧ o ≤ w ∧ w < o + 4 ∧ w < stop := by
  simp only [nextAligned, Option.ite_none_right_eq_some, Option.some.injEq]
  omega

theorem nextAligned_eq_none_iff {o stop : Nat} :
    nextAligned o stop = none ↔ ∀ w, o ≤ w → w % 4 = 0 → stop ≤ w := by
  simp only [nextAligned, ite_eq_right_iff, reduceCtorEq, imp_false, Nat.not_lt]
  exact ⟨fun h w _ _ => by omega, fun h => h _ (by omega) (by omega)⟩

/-- The search takes the aligned words one after another: both lists ascend and have the same members. -/
theorem alignedWords_eq_cons {o stop w : Nat} (h : nextAligned o stop = some w) :
    alignedWords o (stop - o) = w :: alignedWords (w + 1) (stop - (w + 1)) := by
  obtain ⟨h4, hlo, hnear, hhi⟩ := nextAligned_eq_some_iff.mp h
  have hsorted : (w :: alignedWords (w + 1) (stop - (w + 1))).Pairwise (· < ·) :=
    List.pairwise_cons.mpr ⟨fun v hv => (mem_alignedWords.mp hv).1, alignedWords_pairwise _ _⟩
  refine (alignedWords_pairwise o _).eq_of_mem_iff hsorted fun v => ?_
  rw [List.mem_cons, mem_alignedWords, mem_alignedWords]
  omega

theorem alignedWords_eq_nil {o stop : Nat} (h : nextAligned o stop = none) : alignedWords o (stop - o) = [] := by
  refine List.eq_nil_iff_forall_not_mem.mpr fun w hw => ?_
  obtain ⟨hlo, hhi, h4⟩ := mem_alignedWords.mp hw
  have := nextAligned_eq_none_iff.mp h w hlo h4
  omega

theorem nextAligned_eq_head? (o stop : Nat) : nextAligned o stop = (alignedWords o (stop - o)).head? := by
  cases h : nextAligned o stop with
  | none => rw [alignedWords_eq_nil h, List.head?_nil]
  | some w => rw [alignedWords_eq_cons h, List.head?_cons]

end Sys2Proof

namespace Sys2Proof.Machine

variable {s t : State}

/-! ### The blocks of a minimal erase (R154) -/

theorem State.minimalBlock_eq_mul (i : Nat) :
    s.minimalBlock i = (s.aAddr.toNat / s.cfg.eraseBlockSize + i) * s.cfg.eraseBlockSize :=
  (Nat.add_mul _ _ _).symm

theorem State.minimalBlock_lt_windowEnd_iff (hsize : 0 < s.cfg.eraseBlockSize) (hlen : 0 < s.aLen.toNat) (i : Nat) :
    s.minimalBlock i < s.windowEnd ↔
      i < (s.aAddr.toNat + s.aLen.toNat - 1) / s.cfg.eraseBlockSize - s.aAddr.toNat / s.cfg.eraseBlockSize + 1 := by
  have hfirst : s.aAddr.toNat / s.cfg.eraseBlockSize ≤ (s.aAddr.toNat + s.aLen.toNat - 1) / s.cfg.eraseBlockSize :=
    Nat.div_le_div_right (by omega)
  have hwin : s.windowEnd = s.aAddr.toNat + s.aLen.toNat - 1 + 1 := by
    unfold State.windowEnd
    omega
  rw [State.minimalBlock_eq_mul, hwin, Nat.lt_succ_iff, ← Nat.le_div_iff_mul_le hsize]
  omega

/-- Settles O36: the search and the list agree word by word, and a block begins before the window's end exactly when its
index is at most the last byte's block. -/
theorem wordsAndBlocksOfAWindow : Obligations.WordsAndBlocksOfAWindow := by
  refine ⟨fun o l => ⟨fun w => mem_alignedWords, alignedWords_pairwise o l, ?_⟩, fun s i hsize hlen => ?_⟩
  · cases h : nextAligned o (o + l) with
    | none => simpa using alignedWords_eq_nil h
    | some w => simpa using alignedWords_eq_cons h
  · exact State.minimalBlock_lt_windowEnd_iff hsize hlen i

/-! ### Numbers in registers -/

theorem word_ofNat_toNat (w : Word) : BitVec.ofNat 32 w.toNat = w := by simp

theorem word_ofNat_toNat_add (w : Word) (n : Nat) : BitVec.ofNat 32 (w.toNat + n) = w + BitVec.ofNat 32 n := by
  rw [BitVec.ofNat_add, word_ofNat_toNat]

theorem word_pos_of_ne_zero {w : Word} (h : w ≠ 0) : 0 < w.toNat :=
  Nat.pos_of_ne_zero fun h' => h (BitVec.eq_of_toNat_eq h')

/-! ### Acceptance of the flash operations (R150 to R154, 60_exceptions.md R181) -/

theorem State.budgetCheck_passes (h : s.aBudget ≠ 0) : s.budgetCheck.failed = false := by
  simpa [State.budgetCheck] using h

theorem State.payloadCheck_passes (h : s.aData.length = s.aLen.toNat) : s.payloadCheck.failed = false := by
  simpa [State.payloadCheck] using h

theorem State.rangeCheck_passes {inRange : Bool} (h : inRange = true) : (s.rangeCheck inRange).failed = false := by
  simpa [State.rangeCheck] using h

/-- With a TYPEA chip a flash operation runs its rule when checks 4 and 5 pass. -/
theorem State.flash_guarded_of_pass {cs : List Check} {rule : State → State} (hd : s.dialect = .typeA)
    (hcs : ∀ c ∈ cs, c.failed = false) : s.guarded (s.readyCheck :: s.dialectCheck :: cs) rule = rule s := by
  have hready : ¬ s.readyCheck.failed = true := by simp [hd]
  have hdialect : ¬ s.dialectCheck.failed = true := by simp [hd]
  rw [State.guarded_cons, if_neg hready, State.guarded_cons, if_neg hdialect]
  rcases s.guarded_cases cs rule with ⟨c, hc, hf, -⟩ | ⟨-, e⟩
  · simp [hcs c hc] at hf
  · exact e

theorem State.budget_range_pass {inRange : Bool} (hbud : s.aBudget ≠ 0) (hr : inRange = true) :
    ∀ c ∈ [s.budgetCheck, s.rangeCheck inRange], c.failed = false := by
  simp only [List.forall_mem_cons]
  exact ⟨State.budgetCheck_passes hbud, State.rangeCheck_passes hr, List.forall_mem_nil _⟩

theorem State.budget_payload_range_pass {inRange : Bool} (hbud : s.aBudget ≠ 0) (hlen : s.aData.length = s.aLen.toNat)
    (hr : inRange = true) : ∀ c ∈ [s.budgetCheck, s.payloadCheck, s.rangeCheck inRange], c.failed = false := by
  simp only [List.forall_mem_cons]
  exact ⟨State.budgetCheck_passes hbud, State.payloadCheck_passes hlen, State.rangeCheck_passes hr, List.forall_mem_nil _⟩

theorem State.startErase_words (a l : Word) : s.startErase a.toNat l.toNat =
    { s with fsm := .erasing, seqIdx := 0, locAddr := a, locLen := l, todo := .cycle .erase } := by
  simp only [State.startErase, word_ofNat_toNat]

/-- The plan's first block is erased at the plan's start. -/
theorem State.startEraseChip_eq {n : Nat} {rest : List Nat} (hplan : s.cfg.eraseChipPlan = n :: rest)
    (after : State → State) : s.startEraseChip after =
      { s with
        doneBytes := 0, blkIdx := 0, fsm := .erasing, seqIdx := 0, locAddr := s.planStart
        locLen := BitVec.ofNat 32 n, todo := .cycle .erase } := by
  have hn : { s with doneBytes := 0 }.cfg.eraseChipPlan[0]? = some n := by simp [hplan]
  have hstart : BitVec.ofNat 32 (s.planStart.toNat + 0) = s.planStart := word_ofNat_toNat _
  rw [State.startEraseChip, State.eraseChipBlock_of_some hn]
  exact congrArg (fun a => { s with
    doneBytes := 0, blkIdx := 0, fsm := .erasing, seqIdx := 0, locAddr := a, locLen := BitVec.ofNat 32 n
    todo := .cycle .erase }) hstart

/-- Settles O18: every check passes, and each rule's opening is a sequence at position 0. -/
theorem eraseAndProgramBegin : Obligations.EraseAndProgramBegin := by
  intro s hb hd hbud haddr
  have hd' (w : Word) : (s.afterAcceptance w).dialect = .typeA := hd
  refine ⟨fun hwin => ?_, fun n rest hplan hwin => ?_, ?_⟩ <;>
    refine congrArg _ ((State.request_eq_afterAcceptance hb _ _).trans ((State.flash_guarded_of_pass (hd' _) ?_).trans ?_))
  · exact State.budget_range_pass hbud (Bool.and_eq_true_iff.mpr ⟨decide_eq_true haddr, decide_eq_true hwin⟩)
  · exact State.startErase_words _ _
  · exact State.budget_range_pass hbud (Bool.and_eq_true_iff.mpr ⟨decide_eq_true haddr, decide_eq_true hwin⟩)
  · exact State.startEraseChip_eq (s := { s.afterAcceptance 0x00000008 with busy := true, outer := .eraseChip }) hplan _
  · exact State.budget_range_pass hbud (decide_eq_true haddr)
  · rfl

/-- Settles O19: `A_LEN` decides whether the rule reads or ends at once. -/
theorem readFlashBegins : Obligations.ReadFlashBegins := by
  intro s hb hd hwin
  have hd' : (s.afterAcceptance 0x0000000A).dialect = .typeA := hd
  refine ⟨fun hlen => ?_, fun hlen => ?_⟩ <;>
    refine congrArg _ ((State.request_eq_afterAcceptance hb _ _).trans ((State.flash_guarded_of_pass hd' ?_).trans ?_))
  · exact List.forall_mem_singleton.mpr (State.rangeCheck_passes (decide_eq_true hwin))
  · exact if_neg hlen
  · exact List.forall_mem_singleton.mpr (State.rangeCheck_passes (decide_eq_true hwin))
  · exact if_pos hlen

/-- Block 0 of the minimal erase begins at or before the first byte of the window. -/
theorem State.minimalEraseBlock_zero (hlen : 0 < s.aLen.toNat) : s.minimalEraseBlock 0 =
    { s with blkIdx := 0 }.startErase (s.aAddr.toNat / s.cfg.eraseBlockSize * s.cfg.eraseBlockSize)
      s.cfg.eraseBlockSize := by
  have hblock : s.minimalBlock 0 = s.aAddr.toNat / s.cfg.eraseBlockSize * s.cfg.eraseBlockSize := by
    rw [State.minimalBlock_eq_mul, Nat.add_zero]
  have hlt : s.minimalBlock 0 < s.windowEnd := by
    have := Nat.div_mul_le_self s.aAddr.toNat s.cfg.eraseBlockSize
    unfold State.windowEnd
    omega
  rw [← hblock]
  exact if_pos hlt

/-- Settles O20: `A_LEN` and `WHOLE` select the rule's branch. -/
theorem writeFlashBegins : Obligations.WriteFlashBegins := by
  intro s n rest hb hd hbud hlen hwin hcfg hplan
  have hrule (w : Word) := congrArg (Host.Outcome.next (φ := Fault) (ρ := Refusal))
    ((State.request_eq_afterAcceptance hb w State.writeFlashRule).trans
      (State.flash_guarded_of_pass (s := s.afterAcceptance w) hd (State.budget_payload_range_pass
        (s := s.afterAcceptance w) hbud hlen (decide_eq_true hwin))))
  refine ⟨fun hpos => ⟨?_, ?_⟩, fun hzero => ⟨?_, ?_⟩⟩
  · exact (hrule 0x0000000B).trans (congrArg _ ((if_neg hpos).trans
      (State.minimalEraseBlock_zero (s := { s.afterAcceptance 0x0000000B with busy := true, outer := .writeFlash })
        (word_pos_of_ne_zero hpos))))
  · exact (hrule 0x0000001B).trans (congrArg _ ((if_neg hpos).trans
      (State.startEraseChip_eq (s := { s.afterAcceptance 0x0000001B with busy := true, outer := .writeFlash }) hplan _)))
  · exact (hrule 0x0000000B).trans (congrArg _ (if_pos hzero))
  · exact (hrule 0x0000001B).trans (congrArg _ (if_pos hzero))

end Sys2Proof.Machine

namespace Sys2Proof.Machine

variable {s t u : State}

/-! ### What follows an answered read, by `FSM` (R141, R143, R153) -/

theorem readsErased_iff (c : Config) (r : Reply) : c.readsErased r = true ↔ ReadsErased c r := by
  simp [Config.readsErased, Config.rawBytes, ReadsErased]

theorem exec_of_isRead_of_ok {i : Instr} {a : Word} {f : Frame} {r : Reply} (h : IsRead i a f)
    (hans : s.nextAnswer = .ok r) : exec i s = .next ((s.afterSend f 4 s.cfg.tRead).readDone r) := by
  rw [exec_of_isRead h, State.sendRead_ok hans]
  rfl

theorem State.readDone_of_erased {r : Reply} (hf : s.fsm = .erasePoll) (hr : ReadsErased s.cfg r) :
    s.readDone r = s.pollBlockFrom (s.cur.toNat + 1) := by
  simp only [State.readDone, hf, if_pos ((readsErased_iff _ _).mpr hr)]

theorem State.readDone_of_not_erased {r : Reply} (hf : s.fsm = .erasePoll) (hr : ¬ ReadsErased s.cfg r) :
    s.readDone r = s.pollMissed := by
  simp only [State.readDone, hf, if_neg ((readsErased_iff _ _).not.mpr hr)]

theorem State.readDone_of_match {r : Reply} (hf : s.fsm = .programPoll) (hr : r.r0 = s.locVal) :
    s.readDone r = s.byteDone := by
  simp only [State.readDone, hf, if_pos hr]

theorem State.readDone_of_mismatch {r : Reply} (hf : s.fsm = .programPoll) (hr : r.r0 ≠ s.locVal) :
    s.readDone r = s.pollMissed := by
  simp only [State.readDone, hf, if_neg hr]

theorem State.readDone_of_reading (hf : s.fsm = .reading) (r : Reply) : s.readDone r = s.wordRead r := by
  simp only [State.readDone, hf]

theorem State.pollMissed_of_ne (h : s.att + 1 ≠ s.aBudget) : s.pollMissed = { s with att := s.att + 1 } := if_neg h

theorem State.pollMissed_of_eq (h : s.att + 1 = s.aBudget) :
    s.pollMissed = { s with att := s.att + 1 }.afterAbort .timeout s.cur := if_pos h

/-! ### The erase poll (R141, R144) -/

theorem State.pollBlockFrom_of_some {o w : Nat} (h : nextAligned o s.blockEnd = some w) : s.pollBlockFrom o =
    { s with fsm := .erasePoll, att := 0, cur := BitVec.ofNat 32 w, todo := .read } := by
  simp only [State.pollBlockFrom, h]
  rfl

/-- The poll of a further word is in the same `FSM` state. -/
theorem State.pollBlockFrom_of_polling {o w : Nat} (hf : s.fsm = .erasePoll) (h : nextAligned o s.blockEnd = some w) :
    s.pollBlockFrom o = { s with att := 0, cur := BitVec.ofNat 32 w, todo := .read } := by
  rw [State.pollBlockFrom_of_some h, ← hf]

theorem State.pollBlockFrom_of_none {o : Nat} (h : nextAligned o s.blockEnd = none) : s.pollBlockFrom o = s.blockDone := by
  simp only [State.pollBlockFrom, h]

/-- The state in which `SECTOR_ERASE` has been sent and `SEQ_IDX` is past it. -/
def State.afterSectorErase (sa : Addr24) (s : State) : State :=
  { s.afterSend (cycleFrame s.cfg .erase ⟨sa, eraseTerminator⟩) 0 s.cfg.tCycle with
    seqIdx := 6, locAddr := sa.setWidth 32 }

theorem exec_eraseSectorErase_of_ok {r : Reply} (hans : s.nextAnswer = .ok r) (sa : Addr24) :
    exec (.eraseSectorErase sa) s = .next ((s.afterSectorErase sa).pollBlockFrom sa.toNat) := by
  have hsa : (sa.setWidth 32 : Word).toNat = sa.toNat := BitVec.toNat_setWidth_of_le (by decide)
  have hcycle := State.cycleStep_of_ok (s := { s with locAddr := sa.setWidth 32 }) hans .erase 5 ⟨sa, eraseTerminator⟩
  rw [← hsa]
  exact congrArg _ hcycle

theorem State.afterSectorErase_blockEnd (sa : Addr24) :
    (s.afterSectorErase sa).blockEnd = sa.toNat + s.locLen.toNat := by
  have hsa : (sa.setWidth 32 : Word).toNat = sa.toNat := BitVec.toNat_setWidth_of_le (by decide)
  rw [← hsa]
  rfl

/-- The search behind the sector erase cycle takes the block's first aligned word. -/
theorem nextAligned_afterSectorErase (sa : Addr24) :
    nextAligned sa.toNat (s.afterSectorErase sa).blockEnd = (alignedWords sa.toNat s.locLen.toNat).head? := by
  rw [nextAligned_eq_head?, State.afterSectorErase_blockEnd, Nat.add_sub_cancel_left]

/-- Settles O26: behind the last erase cycle the search takes the block's first aligned word. -/
theorem sectorEraseLeadsToItsPoll : Obligations.SectorEraseLeadsToItsPoll := by
  intro s r sa w ws hans hwords
  have hnext := (nextAligned_afterSectorErase (s := s) sa).trans (congrArg List.head? hwords)
  rw [exec_eraseSectorErase_of_ok hans, State.pollBlockFrom_of_some hnext]
  rfl

/-- Settles O31: `ReadsErased` and the budget decide, and the search takes the next of the words left. -/
theorem erasePollStep : Obligations.ErasePollStep := by
  intro s r i a f hans hread hf
  have hf' : (s.afterSend f 4 s.cfg.tRead).fsm = .erasePoll := hf
  rw [exec_of_isRead_of_ok hread hans]
  refine ⟨fun hr hatt => ?_, fun hr hatt => ?_, fun w ws hr hwords => ?_⟩
  · exact congrArg _ ((State.readDone_of_not_erased hf' hr).trans (State.pollMissed_of_ne hatt))
  · exact congrArg _ ((State.readDone_of_not_erased hf' hr).trans (State.pollMissed_of_eq hatt))
  · have hnext : nextAligned (s.cur.toNat + 1) s.blockEnd = some w :=
      (nextAligned_eq_head? _ _).trans (congrArg List.head? hwords)
    exact congrArg _ ((State.readDone_of_erased hf' hr).trans (State.pollBlockFrom_of_polling hf' hnext))

/-! ### The program poll (R143, R145) -/

/-- Settles O32: the low wire byte and the budget decide. -/
theorem programPollStep : Obligations.ProgramPollStep := by
  intro s r i a f hans hread hf
  have hf' : (s.afterSend f 4 s.cfg.tRead).fsm = .programPoll := hf
  rw [exec_of_isRead_of_ok hread hans]
  refine ⟨fun hr ho => ?_, fun hr hatt => ?_, fun hr hatt => ?_⟩
  · exact congrArg _ ((State.readDone_of_match hf' hr).trans (State.byteDone_of_programByte ho))
  · exact congrArg _ ((State.readDone_of_mismatch hf' hr).trans (State.pollMissed_of_ne hatt))
  · exact congrArg _ ((State.readDone_of_mismatch hf' hr).trans (State.pollMissed_of_eq hatt))

/-- The byte behind `BYTE_IDX` is programmed next, `TX` applied. -/
theorem State.programByteAt_next {d : Byte} (h : s.aData[s.byteIdx.toNat + 1]? = some d) :
    s.programByteAt (s.byteIdx.toNat + 1) =
      { s with
        byteIdx := s.byteIdx + 1, cur := s.aAddr + (s.byteIdx + 1), fsm := .programming, seqIdx := 0
        locAddr := s.aAddr + (s.byteIdx + 1), locVal := s.cfg.tx d, todo := .cycle .program } := by
  rw [State.programByteAt_of_some h, word_ofNat_toNat_add]
  rfl

/-- Settles O35: behind a matching read the byte loop goes on at the next index, or ends behind the payload. -/
theorem writeFlashByteEnds : Obligations.WriteFlashByteEnds := by
  intro s r i a f hans hread hf hr ho
  have hf' : (s.afterSend f 4 s.cfg.tRead).fsm = .programPoll := hf
  have hdone := (State.readDone_of_match hf' hr).trans (State.byteDone_of_writeFlash ho)
  rw [exec_of_isRead_of_ok hread hans]
  exact ⟨fun d hd => congrArg _ (hdone.trans (State.programByteAt_next hd)),
    fun hd => congrArg _ (hdone.trans (State.programByteAt_of_none hd))⟩

/-! ### The words of READ_FLASH (R153) -/

/-- One response's bytes and event recorded. -/
def State.takeWord (r : Reply) (s : State) : State :=
  { s with
    out := s.out ++ (s.cfg.rawBytes r).take (s.aLen.toNat - s.byteIdx.toNat)
    byteIdx := s.byteIdx + 4
    progress := s.progress ++ [⟨BitVec.ofNat 32 (min (s.byteIdx.toNat + 4) s.aLen.toNat), s.aLen, .read⟩] }

theorem State.wordRead_eq (r : Reply) : s.wordRead r =
    if s.byteIdx.toNat + 4 < s.aLen.toNat then (s.takeWord r).toRead (s.aAddr + (s.byteIdx + 4))
    else (s.takeWord r).toCompletion := by
  simp only [State.wordRead, State.emit, State.takeWord, word_ofNat_toNat]

theorem State.readDone_of_more {r : Reply} (hf : s.fsm = .reading) (h : s.byteIdx.toNat + 4 < s.aLen.toNat) :
    s.readDone r = (s.takeWord r).toRead (s.aAddr + (s.byteIdx + 4)) := by
  rw [State.readDone_of_reading hf, State.wordRead_eq, if_pos h]

theorem State.readDone_of_last {r : Reply} (hf : s.fsm = .reading) (h : s.aLen.toNat ≤ s.byteIdx.toNat + 4) :
    s.readDone r = (s.takeWord r).toCompletion := by
  rw [State.readDone_of_reading hf, State.wordRead_eq, if_neg (Nat.not_lt.mpr h)]

/-- Settles O33: `BYTE_IDX` behind the word decides whether another follows. -/
theorem readFlashWordStep : Obligations.ReadFlashWordStep := by
  intro s r i a f hans hread hf
  rw [exec_of_isRead_of_ok hread hans]
  exact ⟨fun hmore => congrArg _ (State.readDone_of_more hf hmore),
    fun hlast => congrArg _ (State.readDone_of_last hf hlast)⟩

/-! ### The end of an erased block (R144, R146, R150, R151, R154) -/

/-- The state after a block's last `Send`: its traffic done, and a sector erase cycle's own writes. -/
def State.afterBlock (f : Frame) (n m : Nat) (q : BitVec 3) (la : Word) (s : State) : State :=
  { s.afterSend f n m with seqIdx := q, locAddr := la }

theorem BlockEnding.eq_afterBlock {i : Instr} (h : BlockEnding s i u) : ∃ f n m q la, u = s.afterBlock f n m q la := by
  cases h with
  | polled r i a f => exact ⟨f, 4, s.cfg.tRead, s.seqIdx, s.locAddr, rfl⟩
  | noWord r sa => exact ⟨_, 0, s.cfg.tCycle, 6, sa.setWidth 32, rfl⟩

/-- Behind the block's last `Send` the search finds no further word. -/
theorem BlockEnding.exec_eq {i : Instr} (h : BlockEnding s i u) : exec i s = .next u.blockDone := by
  cases h with
  | polled r i a f hans hread hf hr hwords =>
    have hnext : nextAligned (s.cur.toNat + 1) s.blockEnd = none :=
      (nextAligned_eq_head? _ _).trans (congrArg List.head? hwords)
    rw [exec_of_isRead_of_ok hread hans]
    exact congrArg _ ((State.readDone_of_erased (s := s.afterSend f 4 s.cfg.tRead) hf hr).trans
      (State.pollBlockFrom_of_none hnext))
  | noWord r sa hans hwords =>
    have hnext := (nextAligned_afterSectorErase (s := s) sa).trans (congrArg List.head? hwords)
    rw [exec_eraseSectorErase_of_ok hans, State.pollBlockFrom_of_none hnext]
    rfl

theorem State.countPlanBlock_eq : s.countPlanBlock =
    { s with
      doneBytes := s.doneBytes + s.locLen
      progress := s.progress ++ [⟨s.doneBytes + s.locLen, BitVec.ofNat 32 s.cfg.eraseChipPlan.sum, .erase⟩] } := by
  simp only [State.countPlanBlock, State.emit, word_ofNat_toNat, Config.planTotal]

/-- A block of the plan begins behind the bytes already erased. -/
theorem State.eraseChipBlock_eq {i n : Nat} (h : s.cfg.eraseChipPlan[i]? = some n) (after : State → State) :
    s.eraseChipBlock i after =
      { s with
        blkIdx := BitVec.ofNat 32 i, fsm := .erasing, seqIdx := 0, locAddr := s.planStart + s.doneBytes
        locLen := BitVec.ofNat 32 n, todo := .cycle .erase } := by
  rw [State.eraseChipBlock_of_some h]
  simp only [State.startErase, word_ofNat_toNat_add, word_ofNat_toNat]

theorem State.programByteAt_zero {d : Byte} {ds : List Byte} (h : s.aData = d :: ds) :
    s.programByteAt 0 = s.atFirstByte d := by
  have hd : s.aData[0]? = some d := by simp [h]
  have haddr : s.aAddr + BitVec.ofNat 32 0 = s.aAddr := BitVec.add_zero _
  rw [State.programByteAt_of_some hd, haddr]
  rfl

theorem State.minimalEraseBlock_of_lt {i : Nat} (h : s.minimalBlock i < s.windowEnd) : s.minimalEraseBlock i =
    { s with blkIdx := BitVec.ofNat 32 i }.startErase (s.minimalBlock i) s.cfg.eraseBlockSize := if_pos h

theorem State.minimalEraseBlock_of_not_lt {i : Nat} (h : ¬ s.minimalBlock i < s.windowEnd) :
    s.minimalEraseBlock i = { s with blkIdx := BitVec.ofNat 32 i }.programByteAt 0 := if_neg h

theorem State.planStart_eq_ite : s.planStart = if s.outer = .eraseChip then s.aAddr else 0 := by
  cases h : s.outer <;> simp [State.planStart, h]

theorem State.planBlockDone_of_some {n : Nat} (h : s.cfg.eraseChipPlan[s.blkIdx.toNat + 1]? = some n)
    (after : State → State) : s.planBlockDone after =
      { s with
        doneBytes := s.doneBytes + s.locLen
        progress := s.progress ++ [⟨s.doneBytes + s.locLen, BitVec.ofNat 32 s.cfg.eraseChipPlan.sum, .erase⟩]
        blkIdx := s.blkIdx + 1, fsm := .erasing, seqIdx := 0
        locAddr := (if s.outer = .eraseChip then s.aAddr else 0) + (s.doneBytes + s.locLen)
        locLen := BitVec.ofNat 32 n, todo := .cycle .erase } := by
  rw [State.planBlockDone_eq, State.eraseChipBlock_eq (s := s.countPlanBlock) h, State.planStart_eq_ite,
    word_ofNat_toNat_add, State.countPlanBlock_eq]
  rfl

theorem State.planBlockDone_of_none (h : s.cfg.eraseChipPlan[s.blkIdx.toNat + 1]? = none) (after : State → State) :
    s.planBlockDone after = after
      { s with
        doneBytes := s.doneBytes + s.locLen
        progress := s.progress ++ [⟨s.doneBytes + s.locLen, BitVec.ofNat 32 s.cfg.eraseChipPlan.sum, .erase⟩] } := by
  rw [State.planBlockDone_eq, State.eraseChipBlock_of_none (s := s.countPlanBlock) h, State.countPlanBlock_eq]

theorem State.planBlockDone_ends {d : Byte} {ds : List Byte} (h : s.cfg.eraseChipPlan[s.blkIdx.toNat + 1]? = none)
    (hd : s.aData = d :: ds) : s.planBlockDone (State.programByteAt 0) = State.atFirstByte d
      { s with
        doneBytes := s.doneBytes + s.locLen
        progress := s.progress ++ [⟨s.doneBytes + s.locLen, BitVec.ofNat 32 s.cfg.eraseChipPlan.sum, .erase⟩] } := by
  rw [State.planBlockDone_of_none h]
  exact State.programByteAt_zero hd

theorem State.minimalEraseBlock_next (h : s.minimalBlock (s.blkIdx.toNat + 1) < s.windowEnd) :
    s.minimalEraseBlock (s.blkIdx.toNat + 1) =
      { s with blkIdx := s.blkIdx + 1 }.startErase (s.minimalBlock (s.blkIdx.toNat + 1)) s.cfg.eraseBlockSize := by
  rw [State.minimalEraseBlock_of_lt h, word_ofNat_toNat_add]
  rfl

theorem State.minimalEraseBlock_ends {d : Byte} {ds : List Byte}
    (h : ¬ s.minimalBlock (s.blkIdx.toNat + 1) < s.windowEnd) (hd : s.aData = d :: ds) :
    s.minimalEraseBlock (s.blkIdx.toNat + 1) = { s with blkIdx := s.blkIdx + 1 }.atFirstByte d := by
  rw [State.minimalEraseBlock_of_not_lt h, word_ofNat_toNat_add]
  exact State.programByteAt_zero hd

/-- Settles O34: the operation in progress decides what follows a block, and its list of blocks whether another does. -/
theorem eraseBodyEnds : Obligations.EraseBodyEnds := by
  intro s i u hend
  have hexec := hend.exec_eq
  obtain ⟨f, k, m, q, la, rfl⟩ := hend.eq_afterBlock
  have houter : (s.afterBlock f k m q la).outer = s.outer := rfl
  rw [hexec]
  refine ⟨fun ho => ?_, fun n ho hn => ?_, fun ho hn => ?_, fun d ds ho hw hn hd => ?_, fun ho hw hlt => ?_,
    fun d ds ho hw hlt hd => ?_⟩
  · exact congrArg _ (State.blockDone_of_eraseBlock (houter.trans ho))
  · have hplan := State.planBlockDone_of_some (s := s.afterBlock f k m q la) hn
    rcases ho with ho | ⟨ho, hw⟩
    · exact congrArg _ ((State.blockDone_of_eraseChip (houter.trans ho)).trans (hplan _))
    · exact congrArg _ ((State.blockDone_of_whole (houter.trans ho) hw).trans (hplan _))
  · exact congrArg _ ((State.blockDone_of_eraseChip (houter.trans ho)).trans
      (State.planBlockDone_of_none (s := s.afterBlock f k m q la) hn _))
  · exact congrArg _ ((State.blockDone_of_whole (houter.trans ho) hw).trans
      (State.planBlockDone_ends (s := s.afterBlock f k m q la) hn hd))
  · exact congrArg _ ((State.blockDone_of_minimal (houter.trans ho) hw).trans
      (State.minimalEraseBlock_next (s := s.afterBlock f k m q la) hlt))
  · exact congrArg _ ((State.blockDone_of_minimal (houter.trans ho) hw).trans
      (State.minimalEraseBlock_ends (s := s.afterBlock f k m q la) hlt hd))

end Sys2Proof.Machine

namespace Sys2Proof.Machine

variable {s t : State}

/-! ### Steps and ends of a whole operation -/

/-- Left alone by the host, an idle FCB accepts its held request. -/
theorem step_accepts {w : Word} {i : Instr} (hcfg : s.cfg.WF) (hhost : s.host = []) (hb : s.busy = false)
    (hheld : s.held = some w) (hd : decodeRequest w = .ok i) : step s = exec i s := by
  have hi : s.nextInstr = some i := by rw [nextInstr_of_held hb hheld, hd]; rfl
  rw [step_of_no_host hcfg hhost, fcbStep_of_nextInstr hi]

/-- The traffic of the read at `CUR`. -/
def State.afterRead (s : State) : State := s.afterSend (readFrame s.cfg s.cur) 4 s.cfg.tRead

/-- A busy FCB before an answered read makes it, and what follows the read in its `FSM` state comes next. -/
theorem step_reads {r : Reply} (hcfg : s.cfg.WF) (hhost : s.host = []) (hb : s.busy = true) (ht : s.todo = .read)
    (hans : s.nextAnswer = .ok r) : step s = .next (s.afterRead.readDone r) := by
  rw [step_of_no_host hcfg hhost, fcbStep_of_nextInstr (nextInstr_of_read hb ht), exec_readInstr, State.sendRead_ok hans]
  rfl

theorem State.completion_of_programByte (h : s.op = 0x9) : s.completion = s.afterOperation 0 0 := by
  simp [State.completion, h, State.finish_eq_afterOperation]

theorem State.completion_of_readFlash (h : s.op = 0xA) :
    s.completion = { s with dataOut := s.out }.afterOperation s.aLen 0 := by
  simp [State.completion, h, State.finish_eq_afterOperation]

/-! ### READ_FLASH from its request to its end (R153) -/

/-- What READ_FLASH's acceptance leaves. -/
def State.readAccepted (s : State) : State :=
  { s.afterAcceptance 0x0000000A with busy := true, fsm := .reading, out := [], byteIdx := 0, cur := s.arg0, todo := .read }

/-- READ_FLASH before its next word, the words before it answered `rs`. -/
def State.atWord (rs : List Reply) (s : State) : State :=
  { s.readAccepted with
    answers := s.answers.drop rs.length, sends := s.sends + rs.length
    sent := s.sent ++ (List.range rs.length).map fun k =>
      ⟨readFrame s.cfg (s.arg0 + BitVec.ofNat 32 (4 * k)), 4, s.cfg.tRead⟩
    out := (rs.flatMap s.cfg.rawBytes).take s.arg1.toNat
    byteIdx := BitVec.ofNat 32 (4 * rs.length)
    progress := s.progress ++ (List.range rs.length).map fun k =>
      ⟨BitVec.ofNat 32 (min (4 * (k + 1)) s.arg1.toNat), s.arg1, .read⟩
    cur := s.arg0 + BitVec.ofNat 32 (4 * rs.length) }

theorem State.atWord_nil : s.atWord [] = s.readAccepted := by
  simp [State.atWord, State.readAccepted, State.afterAcceptance]

theorem length_flatMap_rawBytes (c : Config) (rs : List Reply) : (rs.flatMap c.rawBytes).length = 4 * rs.length := by
  simp [List.length_flatMap, Config.rawBytes, Nat.mul_comm]

/-- The word after those of `rs`, answered `r` and taken. -/
theorem State.takeWord_atWord {rs : List Reply} (h : 4 * rs.length < 2 ^ 32) (r : Reply) :
    (s.atWord rs).afterRead.takeWord r =
      { s.atWord (rs ++ [r]) with cur := (s.atWord rs).cur } := by
  have hidx : (BitVec.ofNat 32 (4 * rs.length)).toNat = 4 * rs.length := toNat_ofNat_of_lt h
  have hnext : BitVec.ofNat 32 (4 * rs.length) + 4#32 = BitVec.ofNat 32 (4 * rs.length + 4) := (BitVec.ofNat_add _ 4).symm
  have hout : (rs.flatMap s.cfg.rawBytes).take s.arg1.toNat ++ (s.cfg.rawBytes r).take (s.arg1.toNat - 4 * rs.length) =
      (rs.flatMap s.cfg.rawBytes ++ s.cfg.rawBytes r).take s.arg1.toNat := by
    rw [List.take_append, length_flatMap_rawBytes]
  simp [State.takeWord, State.atWord, State.afterRead, State.afterSend, State.readAccepted, State.afterAcceptance, hidx,
    hnext, hout, List.range_succ, Nat.mul_add, Nat.add_assoc]

theorem State.toRead_atWord (rs : List Reply) (r : Reply) (c : Word) :
    { s.atWord (rs ++ [r]) with cur := c }.toRead (s.arg0 + (BitVec.ofNat 32 (4 * rs.length) + 4)) =
      s.atWord (rs ++ [r]) := by
  have hnext : BitVec.ofNat 32 (4 * rs.length) + 4 = BitVec.ofNat 32 (4 * (rs ++ [r]).length) := by
    rw [List.length_append, Nat.mul_add, BitVec.ofNat_add]
    rfl
  rw [hnext]
  rfl

/-- A word with another behind it leads to the next word. -/
theorem step_of_word {rs : List Reply} {r : Reply} (hcfg : s.cfg.WF) (hhost : s.host = [])
    (hans : (s.atWord rs).nextAnswer = .ok r) (hmore : 4 * rs.length + 4 < s.arg1.toNat) :
    step (s.atWord rs) = .next (s.atWord (rs ++ [r])) := by
  have hL := s.arg1.isLt
  have hidx : (s.atWord rs).byteIdx.toNat = 4 * rs.length := toNat_ofNat_of_lt (by omega)
  rw [step_reads (s := s.atWord rs) hcfg hhost rfl rfl hans, State.readDone_of_more rfl (hidx ▸ hmore),
    State.takeWord_atWord (by omega)]
  exact congrArg _ (State.toRead_atWord rs r _)

/-- Behind the last word only the completion is left. -/
theorem step_of_last_word {rs : List Reply} {r : Reply} (hcfg : s.cfg.WF) (hhost : s.host = [])
    (hans : (s.atWord rs).nextAnswer = .ok r) (hin : 4 * rs.length < s.arg1.toNat)
    (hlast : s.arg1.toNat ≤ 4 * rs.length + 4) :
    step (s.atWord rs) = .next { s.atWord (rs ++ [r]) with cur := (s.atWord rs).cur, todo := .complete } := by
  have hL := s.arg1.isLt
  have hidx : (s.atWord rs).byteIdx.toNat = 4 * rs.length := toNat_ofNat_of_lt (by omega)
  rw [step_reads (s := s.atWord rs) hcfg hhost rfl rfl hans, State.readDone_of_last rfl (hidx ▸ hlast),
    State.takeWord_atWord (by omega)]
  rfl

/-- The words answered `rs` are read one after another, and then only the completion is left. -/
theorem run_words {pre rs : List Reply} {rest : List Answer} (hcfg : s.cfg.WF) (hhost : s.host = []) (hne : rs ≠ [])
    (hlen : pre.length + rs.length = (s.arg1.toNat + 3) / 4)
    (hans : s.answers.drop pre.length = rs.map Answer.ok ++ rest) : ∃ c, ∀ n,
      core.run (rs.length + n) (s.atWord pre) =
        core.run n { s.atWord (pre ++ rs) with cur := c, todo := .complete } := by
  induction rs generalizing pre with
  | nil => exact absurd rfl hne
  | cons r rs ih =>
    have hnext : (s.atWord pre).nextAnswer = .ok r := State.nextAnswer_cons hans
    cases rs with
    | nil =>
      simp only [List.length_singleton] at hlen
      refine ⟨(s.atWord pre).cur, fun n => ?_⟩
      rw [List.length_singleton, Nat.add_comm,
        run_of_step (step_of_last_word hcfg hhost hnext (by omega) (by omega))]
    | cons q qs =>
      have hlen' : (pre ++ [r]).length + (q :: qs).length = (s.arg1.toNat + 3) / 4 := by
        rw [← hlen, List.length_append, Nat.add_assoc, Nat.add_comm [r].length]
        rfl
      have hrest : s.answers.drop (pre ++ [r]).length = (q :: qs).map Answer.ok ++ rest := by
        rw [List.length_append, List.length_singleton, ← List.tail_drop, hans]
        rfl
      obtain ⟨c, hrun⟩ := ih (List.cons_ne_nil q qs) hlen' hrest
      simp only [List.length_cons] at hlen
      refine ⟨c, fun n => ?_⟩
      rw [List.length_cons, Nat.add_right_comm, run_of_step (step_of_word hcfg hhost hnext (by omega)), hrun,
        List.append_assoc]
      rfl

/-- Settles O57: acceptance, one step per word, and the completion, which hands over the bytes. -/
theorem readFlashReturnsTheWindow : Obligations.ReadFlashReturnsTheWindow := by
  intro s rs rest hcfg hhost hb hheld hd hpos hwin hlen hans
  have hlen0 : s.arg1 ≠ 0 := fun h => by simp [h] at hpos
  have hne : rs ≠ [] := fun h => by
    rw [h, List.length_nil] at hlen
    omega
  have haccept : step s = .next (s.atWord []) := by
    rw [step_accepts hcfg hhost hb hheld rfl, State.atWord_nil]
    obtain ⟨hbegin, -⟩ := readFlashBegins s hb hd hwin
    exact hbegin hlen0
  obtain ⟨c, hrun⟩ := run_words (pre := []) hcfg hhost hne (by simpa using hlen) hans
  have hend := run_of_complete (s := { s.atWord rs with cur := c, todo := .complete }) hcfg hhost rfl rfl
  rw [State.completion_of_readFlash rfl] at hend
  have hrest : s.answers.drop rs.length = rest := by rw [hans, List.drop_left' (List.length_map _)]
  refine ⟨_, ((run_of_step haccept (rs.length + 1)).trans (hrun 1)).trans hend, rfl, rfl, rfl, rfl, rfl, rfl, rfl, rfl,
    rfl, hrest, hd, rfl⟩

end Sys2Proof.Machine

namespace Sys2Proof.Machine

variable {s t : State}

/-! ### PROGRAM_BYTE from its request to its end (R140, R143, R145, R152) -/

/-- What PROGRAM_BYTE's acceptance leaves. -/
def State.programAccepted (s : State) : State :=
  { s.afterAcceptance 0x00000009 with
    busy := true, fsm := .programming, seqIdx := 0, locAddr := s.arg0, locVal := s.arg1.extractLsb' 0 8
    todo := .cycle .program }

theorem step_of_programByte (hcfg : s.cfg.WF) (hhost : s.host = []) (hb : s.busy = false)
    (hheld : s.held = some 0x00000009) (hd : s.dialect = .typeA) (hbud : s.arg2 ≠ 0)
    (haddr : s.arg0.toNat < s.cfg.capacity) : step s = .next s.programAccepted := by
  rw [step_accepts hcfg hhost hb hheld rfl]
  obtain ⟨-, -, hbegin⟩ := eraseAndProgramBegin s hb hd hbud haddr
  exact hbegin

/-- PROGRAM_BYTE with its four cycles sent, before its first poll read. -/
def State.atProgramPoll (s : State) : State :=
  { s.programAccepted.afterSends ((s.programAccepted.sequence .program).map (cycleExchange s.cfg .program)) with
    seqIdx := 4, fsm := .programPoll, att := 0, cur := s.arg0, todo := .read }

/-- With answers that do not fail, PROGRAM_BYTE sends its four cycles and comes to its poll. -/
theorem run_to_programPoll {c0 c1 c2 c3 : Reply} {rest : List Answer} (hcfg : s.cfg.WF) (hhost : s.host = [])
    (hb : s.busy = false) (hheld : s.held = some 0x00000009) (hd : s.dialect = .typeA) (hbud : s.arg2 ≠ 0)
    (haddr : s.arg0.toNat < s.cfg.capacity) (hans : s.answers = [.ok c0, .ok c1, .ok c2, .ok c3] ++ rest) (n : Nat) :
    core.run (n + 5) s = core.run n s.atProgramPoll := by
  have hloc : s.arg0.toNat < 2 ^ 24 := haddr.trans_le (capacity_le_of_wf hcfg)
  have hcycles : core.run (4 + n) s.programAccepted = core.run n s.atProgramPoll :=
    run_sequence (s := s.programAccepted) (k := .program) (rs := [c0, c1, c2, c3]) hcfg hhost rfl rfl (fun _ => hloc) rfl
      (List.cons_ne_nil _ _) rfl hans n
  rw [run_of_step (step_of_programByte hcfg hhost hb hheld hd hbud haddr), Nat.add_comm, hcycles]

/-- The traffic of `n` poll reads that missed, and `ATT` counting them. -/
def State.afterMisses (n : Nat) (s : State) : State :=
  { s.afterSends (List.replicate n ⟨readFrame s.cfg s.cur, 4, s.cfg.tRead⟩) with att := s.att + BitVec.ofNat 32 n }

theorem State.afterMisses_zero : s.afterMisses 0 = s := by simp [State.afterMisses, State.afterSends]

theorem State.afterMisses_succ (n : Nat) :
    { s.afterRead with att := s.att + 1 }.afterMisses n = s.afterMisses (n + 1) := by
  have hatt : s.att + 1#32 + BitVec.ofNat 32 n = s.att + (BitVec.ofNat 32 n + 1#32) := by
    rw [BitVec.add_assoc, BitVec.add_comm 1#32]
  simp [State.afterMisses, State.afterSends, State.afterRead, State.afterSend, List.replicate_succ, hatt, BitVec.ofNat_add,
    Nat.add_assoc, Nat.add_comm 1]

/-- Misses within the budget are read again (R143). -/
theorem run_misses {misses : List Reply} {rest : List Answer} (hcfg : s.cfg.WF) (hhost : s.host = [])
    (hb : s.busy = true) (ht : s.todo = .read) (hf : s.fsm = .programPoll) (hmiss : ∀ m ∈ misses, m.r0 ≠ s.locVal)
    (hatt : s.att.toNat + misses.length < s.aBudget.toNat) (hans : s.answers = misses.map Answer.ok ++ rest) (n : Nat) :
    core.run (n + misses.length) s = core.run n (s.afterMisses misses.length) := by
  induction misses generalizing s with
  | nil => rw [List.length_nil, State.afterMisses_zero, Nat.add_zero]
  | cons m ms ih =>
    rw [List.length_cons] at hatt
    have hlt := s.aBudget.isLt
    have hone : (s.att + 1).toNat = s.att.toNat + 1 := BitVec.toNat_add_of_lt (by simp; omega)
    have hmore : s.att + 1 ≠ s.aBudget := fun h => by
      rw [h] at hone
      omega
    obtain ⟨hm, hms⟩ := List.forall_mem_cons.mp hmiss
    have hstep := step_reads hcfg hhost hb ht (State.nextAnswer_cons hans)
    rw [State.readDone_of_mismatch (s := s.afterRead) hf hm, State.pollMissed_of_ne (s := s.afterRead) hmore] at hstep
    rw [List.length_cons, ← Nat.add_assoc, run_of_step hstep, ← State.afterMisses_succ]
    refine ih (s := { s.afterRead with att := s.att + 1 }) hcfg hhost hb ht hf hms ?_ (congrArg List.tail hans)
    simp only [hone]
    exact (Nat.add_right_comm _ _ _).trans_lt hatt

theorem State.afterMisses_answers {misses : List Reply} {rest : List Answer}
    (hans : s.answers = misses.map Answer.ok ++ rest) : (s.afterMisses misses.length).answers = rest := by
  simp [State.afterMisses, State.afterSends, hans]

theorem State.afterMisses_sends (n : Nat) : (s.afterMisses n).sends = s.sends + n := by
  simp [State.afterMisses, State.afterSends]

theorem State.atProgramPoll_afterMisses_att (n : Nat) : (s.atProgramPoll.afterMisses n).att = BitVec.ofNat 32 n :=
  BitVec.zero_add _

/-- The read that matches ends the poll, and the completion follows. -/
theorem run_hit {hit : Reply} (hcfg : s.cfg.WF) (hhost : s.host = []) (hb : s.busy = true) (ht : s.todo = .read)
    (hf : s.fsm = .programPoll) (ho : s.outer = .none) (hop : s.op = 0x9) (hans : s.nextAnswer = .ok hit)
    (hhit : hit.r0 = s.locVal) : core.run 2 s = .next (s.afterRead.toCompletion.afterOperation 0 0) := by
  have hstep := step_reads hcfg hhost hb ht hans
  rw [State.readDone_of_match (s := s.afterRead) hf hhit, State.byteDone_of_programByte (s := s.afterRead) ho] at hstep
  rw [run_of_step hstep, run_of_complete (s := s.afterRead.toCompletion) hcfg hhost hb rfl,
    State.completion_of_programByte (s := s.afterRead.toCompletion) hop]

/-- The miss that exhausts the budget aborts (R140, 60_exceptions.md R172). -/
theorem run_last_miss {m : Reply} (hcfg : s.cfg.WF) (hhost : s.host = []) (hb : s.busy = true) (ht : s.todo = .read)
    (hf : s.fsm = .programPoll) (hatt : s.att + 1 = s.aBudget) (hans : s.nextAnswer = .ok m) (hm : m.r0 ≠ s.locVal) :
    core.run 1 s = .next ({ s.afterRead with att := s.att + 1 }.afterAbort .timeout s.cur) := by
  have hstep := step_reads hcfg hhost hb ht hans
  rw [State.readDone_of_mismatch (s := s.afterRead) hf hm, State.pollMissed_of_eq (s := s.afterRead) hatt] at hstep
  exact run_of_step hstep 0

/-- PROGRAM_BYTE from its request through its cycles and the misses of its poll, fewer than the budget. -/
theorem run_through_misses {c0 c1 c2 c3 : Reply} {misses : List Reply} {rest : List Answer} (hcfg : s.cfg.WF)
    (hhost : s.host = []) (hb : s.busy = false) (hheld : s.held = some 0x00000009) (hd : s.dialect = .typeA)
    (hbud : s.arg2 ≠ 0) (haddr : s.arg0.toNat < s.cfg.capacity) (hmiss : ∀ m ∈ misses, m.r0 ≠ s.arg1.extractLsb' 0 8)
    (hlt : misses.length < s.arg2.toNat)
    (hans : s.answers = [.ok c0, .ok c1, .ok c2, .ok c3] ++ (misses.map Answer.ok ++ rest)) (n : Nat) :
    core.run (n + misses.length + 5) s = core.run n (s.atProgramPoll.afterMisses misses.length) ∧
      (s.atProgramPoll.afterMisses misses.length).answers = rest := by
  have hans' : s.atProgramPoll.answers = misses.map Answer.ok ++ rest := congrArg (List.drop 4) hans
  have hwithin : s.atProgramPoll.att.toNat + misses.length < s.atProgramPoll.aBudget.toNat :=
    (Nat.zero_add _).trans_lt hlt
  refine ⟨?_, State.afterMisses_answers hans'⟩
  rw [run_to_programPoll hcfg hhost hb hheld hd hbud haddr hans,
    run_misses (s := s.atProgramPoll) hcfg hhost rfl rfl rfl hmiss hwithin hans']

/-- Settles O58: behind the misses stands the match, or the miss that exhausts the budget. -/
theorem programByteVerifiesByPolling : Obligations.ProgramByteVerifiesByPolling := by
  intro s c0 c1 c2 c3 misses rest hcfg hhost hb ho hheld hd hbud haddr hmiss
  refine ⟨fun hit hhit hlt hans => ?_, fun hlen hans => ?_⟩
  · rw [List.append_assoc] at hans
    obtain ⟨hrun, hnext⟩ := run_through_misses hcfg hhost hb hheld hd hbud haddr hmiss hlt hans 2
    have hend := run_hit (s := s.atProgramPoll.afterMisses misses.length) hcfg hhost rfl rfl rfl ho rfl
      (State.nextAnswer_cons hnext) hhit
    have hsends : (s.atProgramPoll.afterMisses misses.length).sends + 1 = s.sends + misses.length + 5 := by
      have hcycles : s.atProgramPoll.sends = s.sends + 4 := rfl
      rw [State.afterMisses_sends, hcycles]
      omega
    rw [Nat.add_comm 2] at hrun
    exact ⟨_, hrun.trans hend, rfl, rfl, rfl, rfl, rfl, congrArg List.tail hnext, hsends⟩
  · obtain rfl | ⟨early, last, rfl⟩ := List.eq_nil_or_concat' misses
    · have hpos := word_pos_of_ne_zero hbud
      rw [← hlen, List.length_nil] at hpos
      omega
    obtain ⟨hearly, hlast⟩ := List.forall_mem_append.mp hmiss
    rw [List.map_append, List.append_assoc, List.append_assoc] at hans
    rw [List.length_append, List.length_singleton] at hlen ⊢
    obtain ⟨hrun, hnext⟩ := run_through_misses hcfg hhost hb hheld hd hbud haddr hearly (by omega) hans 1
    have hatt : (s.atProgramPoll.afterMisses early.length).att + 1 = s.arg2 := by
      rw [State.atProgramPoll_afterMisses_att, ← word_ofNat_toNat s.arg2, ← hlen]
      exact (BitVec.ofNat_add _ _).symm
    have hend := run_last_miss (s := s.atProgramPoll.afterMisses early.length) hcfg hhost rfl rfl rfl hatt
      (State.nextAnswer_cons hnext) (hlast last List.mem_cons_self)
    rw [Nat.add_comm 1] at hrun
    exact ⟨_, hrun.trans hend, rfl, rfl, rfl, rfl, rfl, congrArg List.tail hnext, hd⟩

end Sys2Proof.Machine

namespace Sys2Proof.Machine

/-! ### The chip double (R156, 95_test_vectors.md section 0) -/

variable {c : Chip}

/-- The double between two command sequences. -/
structure Chip.Listening (c : Chip) : Prop where
  commands : c.commands = []
  progarm : c.progarm = false
  erasearm : c.erasearm = false

/-- A cycle that no earlier one armed and that is no reset command extends the command list. -/
theorem Chip.cycle_of_unarmed {y : Cycle} (hp : c.progarm = false) (he : c.erasearm = false) (hy : y.data ≠ 0xF0) :
    c.cycle y = c.command (c.commands ++ [y]) := by
  have hreset : ¬ y.data = 0xF0 := hy
  simp only [Chip.cycle, hp, he, Bool.false_and, Bool.false_eq_true, if_false, if_neg hreset]

/-- The cycle behind a program set-up clears bits of its byte. -/
theorem Chip.cycle_of_armed {y : Cycle} (hp : c.progarm = true) : c.cycle y =
    { c with
      progarm := false, mem := c.mem.set y.addr.toNat (c.mem.getD y.addr.toNat 0xFF &&& c.store y.data) } := if_pos hp

/-- The program sequence on the double: the last cycle clears bits of its byte, and nothing else changes. -/
theorem Chip.Listening.program (h : c.Listening) (y : Cycle) :
    [unlock1, unlock2, progSetup, y].foldl Chip.cycle c =
      { c with mem := c.mem.set y.addr.toNat (c.mem.getD y.addr.toNat 0xFF &&& c.store y.data) } := by
  obtain ⟨hcmd, hp, he⟩ := h
  have h1 : c.cycle unlock1 = { c with commands := [unlock1] } := by
    rw [Chip.cycle_of_unarmed hp he (by decide), hcmd]
    rfl
  have h2 : { c with commands := [unlock1] }.cycle unlock2 = { c with commands := [unlock1, unlock2] } :=
    Chip.cycle_of_unarmed (c := { c with commands := [unlock1] }) hp he (by decide)
  have hlist : [unlock1, unlock2, progSetup] ≠ [unlock1, unlock2, idEntry] := by decide
  have h3 : { c with commands := [unlock1, unlock2] }.cycle progSetup = 
      { c with commands := [], progarm := true } :=
    (Chip.cycle_of_unarmed (c := { c with commands := [unlock1, unlock2] }) hp he (by decide)).trans
      ((if_neg hlist).trans (if_pos rfl))
  simp only [List.foldl_cons, List.foldl_nil, h1, h2, h3]
  rw [Chip.cycle_of_armed rfl]
  simp only [Chip.store, hcmd, hp]

theorem Chip.store_tx {cfg : Config} (h : c.encrypting = cfg.encrypting) (x : Byte) : c.store (cfg.tx x) = x := by
  cases he : cfg.encrypting with
  | true => simp [Chip.store, h, he, Config.tx_of_encrypting he]
  | false => simp [Chip.store, h, he, Config.tx_of_plain he]

/-- A byte that the double holds raw is read as the wire byte `TX` gives it. -/
theorem Chip.load_eq_tx {cfg : Config} {a : Nat} {x : Byte} (h : c.encrypting = cfg.encrypting)
    (hx : c.mem[a]? = some x) : c.load a = cfg.tx x := by
  simp [Chip.load, Config.tx, h, hx]

theorem Chip.read_r0 (h : c.idmode = false) (a : Nat) : (c.read a).r0 = c.load a := by simp [Chip.read, h]

/-- The double takes a cycle's address and data from its frame, whatever the profile. -/
theorem Chip.exchange_cycleExchange (cfg : Config) (k : CycleKind) (y : Cycle) :
    c.exchange (cycleExchange cfg k y) = (.ok default, c.cycle y) := by
  obtain ⟨o, sub, hf⟩ := cycleFrame_eq_layoutA3 cfg k
  simp [Chip.exchange, cycleExchange, hf, layoutA3]

theorem Chip.exchange_read (cfg : Config) (a : Word) :
    c.exchange ⟨readFrame cfg a, 4, cfg.tRead⟩ = (.ok (c.read a.toNat), c) := by
  obtain ⟨o, sub, hf⟩ := readFrame_eq_layoutG cfg
  simp only [Chip.exchange, hf, layoutG, word_of_its_bytes, if_pos]

/-! ### The FCB with the double behind its transport -/

variable {b : Bench} {t : State}

theorem benchRun_of_step {b' : Bench} (h : b.step = .next b') (n : Nat) : b.run (n + 1) = b'.run n := by
  simp only [Bench.run, h]

/-- A step that sends nothing leaves the chip alone. -/
theorem benchStep_of_silent (hx : b.fcb.nextExchange = none) (h : step { b.fcb with answers := [] } = .next t) :
    b.step = .next ⟨t, b.chip⟩ := by
  simp only [Bench.step, Bench.answer, hx, h, ite_self]

/-- A step that sends an exchange gets the chip's answer, and the chip takes it. -/
theorem benchStep_of_send {x : Exchange} {a : Answer} {c : Chip} (hcfg : b.fcb.cfg.WF) (hhost : b.fcb.host = [])
    (hx : b.fcb.nextExchange = some x) (hchip : b.chip.exchange x = (a, c))
    (h : step { b.fcb with answers := [a] } = .next t) : b.step = .next ⟨t, c⟩ := by
  have hfcb : fcbStep { b.fcb with answers := [a] } = .next t :=
    (step_of_no_host (s := { b.fcb with answers := [a] }) hcfg hhost).symm.trans h
  obtain ⟨-, hsends, -⟩ := everyStepSendsAtMostTheNextFrame _ t hfcb
  have hx' : { b.fcb with answers := [a] }.nextExchange = some x := hx
  have hne : t.sends ≠ b.fcb.sends := by simp [hsends, hx']
  simp only [Bench.step, Bench.answer, hx, hchip, h, if_neg hne]

/-- The FCB with the answers the bench hands it. -/
def State.withAnswers (as : List Answer) (s : State) : State := { s with answers := as }

variable {s : State}

theorem benchStep_of_sequence {k : CycleKind} {y : Cycle} (hcfg : s.cfg.WF) (hhost : s.host = []) (hb : s.busy = true)
    (ht : s.todo = .cycle k) (hloc : k = .program ∨ k = .erase → s.locAddr.toNat < 2 ^ 24)
    (hy : (s.sequence k)[s.seqIdx.toNat]? = some y) (c : Chip) :
    Bench.step ⟨s, c⟩ = .next ⟨(s.withAnswers [.ok default]).cycleStep k s.seqIdx.toNat y, c.cycle y⟩ := by
  obtain ⟨i, hi, hcw⟩ := State.encode_of_sequence hy
  have hx : s.nextExchange = some (cycleExchange s.cfg k y) := by
    rw [nextExchange_of_nextInstr ((nextInstr_of_cycle hb ht).trans hi), exchangeOf_of_encode_cycle hcw, Cycle.ofWord_word]
    rfl
  exact benchStep_of_send (b := ⟨s, c⟩) hcfg hhost hx (Chip.exchange_cycleExchange _ _ _)
    (step_of_sequence (s := s.withAnswers [.ok default]) hcfg hhost hb ht hloc (by cases k <;> exact hy))

theorem State.sequence_at {k : CycleKind} {y : Cycle} {ys : List Cycle}
    (h : (s.sequence k).drop s.seqIdx.toNat = y :: ys) : (s.sequence k)[s.seqIdx.toNat]? = some y ∧
      (s.sequence k).drop (s.seqIdx.toNat + 1) = ys ∧ s.sequenceLength k = s.seqIdx.toNat + 1 + ys.length := by
  refine ⟨?_, ?_, ?_⟩
  · rw [← List.head?_drop, h, List.head?_cons]
  · rw [← List.tail_drop, h, List.tail_cons]
  · have := congrArg List.length h
    simp only [List.length_drop, State.length_sequence, List.length_cons] at this
    omega

/-- What follows a cycle does not read `SEQ_IDX`. -/
theorem State.cycleSent_seqIdx (s : State) (q : BitVec 3) (k : CycleKind) (n : Nat) :
    { s with seqIdx := q }.cycleSent k n = s.cycleSent k n := by
  cases k <;> rfl

/-- The traffic of a cycle, then that of the cycles behind it. -/
theorem State.afterCycle_afterSends (s : State) (as : List Answer) (k : CycleKind) (pos : Nat) (y : Cycle)
    (xs : List Exchange) : (((s.withAnswers as).afterCycle k pos y).afterSends xs).withAnswers [] =
      { (s.afterSends (cycleExchange s.cfg k y :: xs)).withAnswers [] with seqIdx := BitVec.ofNat 3 (pos + 1) } := by
  simp [State.withAnswers, State.afterCycle, State.afterSends, State.afterSend, cycleExchange, Nat.add_assoc,
    Nat.add_comm 1]

theorem State.afterCycle_withAnswers_keeps (s : State) (as : List Answer) (k : CycleKind) (pos : Nat) (y : Cycle) :
    ((s.withAnswers as).afterCycle k pos y).cfg = s.cfg ∧ ((s.withAnswers as).afterCycle k pos y).host = s.host ∧
      ((s.withAnswers as).afterCycle k pos y).busy = s.busy ∧ ((s.withAnswers as).afterCycle k pos y).todo = s.todo ∧
      ((s.withAnswers as).afterCycle k pos y).locAddr = s.locAddr := by
  simp [State.withAnswers, State.afterCycle, State.afterSend]

theorem State.sequenceLength_afterCycle (s : State) (k j : CycleKind) (pos : Nat) (y : Cycle) :
    (s.afterCycle k pos y).sequenceLength j = s.sequenceLength j := by
  cases j <;> rfl

theorem State.sequenceLength_withAnswers (s : State) (as : List Answer) (k : CycleKind) :
    (s.withAnswers as).sequenceLength k = s.sequenceLength k := by
  cases k <;> rfl

theorem State.sequence_withAnswers (s : State) (as : List Answer) (k : CycleKind) :
    (s.withAnswers as).sequence k = s.sequence k := by
  cases k <;> rfl

/-- The double answers every cycle, so a sequence goes from `SEQ_IDX` to its end, and the chip has its cycles in order. -/
theorem benchRun_sequence {k : CycleKind} {ys : List Cycle} (hcfg : s.cfg.WF) (hhost : s.host = []) (hb : s.busy = true)
    (ht : s.todo = .cycle k) (hloc : k = .program ∨ k = .erase → s.locAddr.toNat < 2 ^ 24)
    (hys : (s.sequence k).drop s.seqIdx.toNat = ys) (hne : ys ≠ []) (c : Chip) (n : Nat) :
    Bench.run (n + ys.length) ⟨s, c⟩ = Bench.run n
      ⟨((s.afterSends (ys.map (cycleExchange s.cfg k))).withAnswers []).cycleSent k (s.sequenceLength k),
        ys.foldl Chip.cycle c⟩ := by
  induction ys generalizing s c with
  | nil => exact absurd rfl hne
  | cons y ys ih =>
    obtain ⟨hy, hdrop, hlast⟩ := State.sequence_at hys
    rw [List.length_cons, ← Nat.add_assoc, benchRun_of_step (benchStep_of_sequence hcfg hhost hb ht hloc hy c),
      List.map_cons, List.foldl_cons]
    cases ys with
    | nil =>
      rw [State.cycleStep_of_ok (r := default) rfl, hlast]
      rfl
    | cons d ds =>
      have hsix := State.sequenceLength_le_six (k := k) hcfg
      rw [List.length_cons] at hlast
      have hidx : (BitVec.ofNat 3 (s.seqIdx.toNat + 1)).toNat = s.seqIdx.toNat + 1 := toNat_ofNat_of_lt (by omega)
      have hmid : s.seqIdx.toNat + 1 ≠ (s.withAnswers [.ok default]).sequenceLength k := by
        rw [State.sequenceLength_withAnswers]
        omega
      rw [State.cycleStep_of_not_last (r := default) rfl hmid]
      have hrest : (((s.withAnswers [.ok default]).afterCycle k s.seqIdx.toNat y).sequence k).drop
          ((s.withAnswers [.ok default]).afterCycle k s.seqIdx.toNat y).seqIdx.toNat = d :: ds := by
        rw [State.sequence_afterCycle, State.sequence_withAnswers, State.afterCycle_seqIdx, hidx, hdrop]
      obtain ⟨hkcfg, hkhost, hkb, hkt, hkloc⟩ := s.afterCycle_withAnswers_keeps [.ok default] k s.seqIdx.toNat y
      rw [ih (hkcfg ▸ hcfg) (hkhost.trans hhost) (hkb.trans hb) (hkt.trans ht) (hkloc ▸ hloc) hrest
          (List.cons_ne_nil d ds), State.sequenceLength_afterCycle, State.sequenceLength_withAnswers, State.afterCycle_afterSends,
        State.cycleSent_seqIdx, hkcfg]

theorem benchStep_of_read (hcfg : s.cfg.WF) (hhost : s.host = []) (hb : s.busy = true) (ht : s.todo = .read) (c : Chip) :
    Bench.step ⟨s, c⟩ =
      .next ⟨(s.withAnswers [.ok (c.read s.cur.toNat)]).afterRead.readDone (c.read s.cur.toNat), c⟩ := by
  have hx : s.nextExchange = some ⟨readFrame s.cfg s.cur, 4, s.cfg.tRead⟩ := by
    rw [nextExchange_of_nextInstr (nextInstr_of_read hb ht), exchangeOf_readInstr]
  exact benchStep_of_send (b := ⟨s, c⟩) hcfg hhost hx (Chip.exchange_read _ _)
    (step_reads (s := s.withAnswers [.ok (c.read s.cur.toNat)]) hcfg hhost hb ht rfl)

theorem benchStep_of_programByte_end (hcfg : s.cfg.WF) (hhost : s.host = []) (hb : s.busy = true)
    (ht : s.todo = .complete) (hop : s.op = 0x9) (c : Chip) :
    Bench.step ⟨s, c⟩ = .next ⟨(s.withAnswers []).afterOperation 0 0, c⟩ := by
  rw [← State.completion_of_programByte (s := s.withAnswers []) hop]
  exact benchStep_of_silent (b := ⟨s, c⟩) (nextExchange_of_complete hb ht)
    (step_of_complete (s := s.withAnswers []) hcfg hhost hb ht)

/-! ### PROGRAM_BYTE in front of the double (R156) -/

/-- Programming `TX(x)` into an erased byte stores `x`. -/
theorem Chip.Listening.program_erased {cfg : Config} (h : c.Listening) (henc : c.encrypting = cfg.encrypting) {a : Addr24}
    (ha : c.mem[a.toNat]? = some 0xFF) (x : Byte) :
    [unlock1, unlock2, progSetup, ⟨a, cfg.tx x⟩].foldl Chip.cycle c = { c with mem := c.mem.set a.toNat x } := by
  have hbits : c.mem.getD a.toNat 0xFF &&& c.store (cfg.tx x) = x := by
    rw [List.getD_eq_getElem?_getD, ha, Chip.store_tx henc]
    exact BitVec.allOnes_and
  rw [h.program, hbits]

/-- PROGRAM_BYTE on the bench, from its request through its four cycles. -/
theorem benchRun_to_programPoll (hcfg : s.cfg.WF) (hhost : s.host = []) (hb : s.busy = false)
    (hheld : s.held = some 0x00000009) (hd : s.dialect = .typeA) (hbud : s.arg2 ≠ 0) (haddr : s.arg0.toNat < s.cfg.capacity)
    (c : Chip) (n : Nat) : Bench.run (n + 5) ⟨s, c⟩ = Bench.run n
      ⟨(s.withAnswers []).atProgramPoll.withAnswers [],
        [unlock1, unlock2, progSetup, ⟨s.arg0.setWidth 24, s.arg1.extractLsb' 0 8⟩].foldl Chip.cycle c⟩ := by
  have hloc : s.arg0.toNat < 2 ^ 24 := haddr.trans_le (capacity_le_of_wf hcfg)
  have haccept : Bench.step ⟨s, c⟩ = .next ⟨(s.withAnswers []).programAccepted, c⟩ :=
    benchStep_of_silent (b := ⟨s, c⟩) (nextExchange_of_idle hb)
      (step_of_programByte (s := s.withAnswers []) hcfg hhost hb hheld hd hbud haddr)
  rw [benchRun_of_step haccept]
  exact benchRun_sequence (s := (s.withAnswers []).programAccepted) (k := .program) hcfg hhost rfl rfl (fun _ => hloc) rfl
    (List.cons_ne_nil _ _) c n

/-- A program poll whose byte the double holds ends at its first read, and PROGRAM_BYTE completes. -/
theorem benchRun_hit (hcfg : s.cfg.WF) (hhost : s.host = []) (hb : s.busy = true) (ht : s.todo = .read)
    (hf : s.fsm = .programPoll) (ho : s.outer = .none) (hop : s.op = 0x9) (hid : c.idmode = false)
    (hload : c.load s.cur.toNat = s.locVal) : Bench.run 2 ⟨s, c⟩ = .next
      ⟨(((s.withAnswers [.ok (c.read s.cur.toNat)]).afterRead.toCompletion).withAnswers []).afterOperation 0 0, c⟩ := by
  have hread := benchStep_of_read hcfg hhost hb ht c
  have hhit : (c.read s.cur.toNat).r0 = s.locVal := (Chip.read_r0 hid _).trans hload
  rw [State.readDone_of_match (s := (s.withAnswers [.ok (c.read s.cur.toNat)]).afterRead) hf hhit,
    State.byteDone_of_programByte (s := (s.withAnswers [.ok (c.read s.cur.toNat)]).afterRead) ho] at hread
  rw [benchRun_of_step hread]
  exact benchRun_of_step (benchStep_of_programByte_end
    (s := (s.withAnswers [.ok (c.read s.cur.toNat)]).afterRead.toCompletion) hcfg hhost hb rfl hop c) 0

/-- Settles O60: the four cycles store `x`, the first poll read finds `TX(x)`, and the operation completes. -/
theorem programmedByteIsStoredRaw : Obligations.ProgrammedByteIsStoredRaw := by
  rintro ⟨s, c⟩ x hcfg hhost hb ho hheld hd hbud haddr hval henc - hmem hcmd hid hp he
  have ha : (s.arg0.setWidth 24).toNat = s.arg0.toNat := by
    rw [BitVec.toNat_setWidth, Nat.mod_eq_of_lt (haddr.trans_le (capacity_le_of_wf hcfg))]
  have hcycles := benchRun_to_programPoll hcfg hhost hb hheld hd hbud haddr c 2
  have hstored := Chip.Listening.program_erased ⟨hcmd, hp, he⟩ henc (ha.symm ▸ hmem) x
  rw [hval, hstored, ha] at hcycles
  have hin : s.arg0.toNat < c.mem.length := (List.getElem?_eq_some_iff.mp hmem).1
  have hload : { c with mem := c.mem.set s.arg0.toNat x }.load s.arg0.toNat = s.cfg.tx x :=
    Chip.load_eq_tx (c := { c with mem := c.mem.set s.arg0.toNat x }) henc (List.getElem?_set_self hin)
  have hend := benchRun_hit (s := (s.withAnswers []).atProgramPoll.withAnswers [])
    (c := { c with mem := c.mem.set s.arg0.toNat x }) hcfg hhost rfl rfl rfl ho rfl hid (hload.trans hval.symm)
  exact ⟨_, hcycles.trans hend, rfl, rfl, rfl, rfl⟩

end Sys2Proof.Machine

namespace Sys2Proof.Machine

variable {s t u : State}

/-! ### A rank that every step of an operation lowers (R140)

Its components in order of weight: the blocks and the bytes still to come, the part of the body the sequencer is in, the
cycles or words left of that part, and the poll reads left for the word. -/

/-- Blocks that `BLK_IDX` can still count, while one is being erased. -/
def State.blocksLeft (s : State) : Nat := if s.fsm = .erasing ∨ s.fsm = .erasePoll then 2 ^ 32 - s.blkIdx.toNat else 0

/-- Bytes behind `BYTE_IDX`. -/
def State.bytesLeft (s : State) : Nat := s.aLen.toNat - s.byteIdx.toNat

/-- The parts of a body: its opening cycles, its reads, IDENTIFY's reset cycles, its end. -/
def Todo.phase : Todo → Nat
  | .cycle .ident | .cycle .erase | .cycle .program => 3
  | .read => 2
  | .cycle .reset => 1
  | .complete | .idle => 0

/-- Cycles left of a sequence, or addresses left of a polled block. -/
def State.placesLeft (s : State) : Nat :=
  match s.todo with
  | .cycle k => s.sequenceLength k - s.seqIdx.toNat
  | .read => s.blockEnd - s.cur.toNat
  | .complete | .idle => 0

theorem State.placesLeft_of_cycle {k : CycleKind} (ht : s.todo = .cycle k) :
    s.placesLeft = s.sequenceLength k - s.seqIdx.toNat := by
  simp only [State.placesLeft, ht]

/-- Poll reads left within the budget. -/
def State.readsLeft (s : State) : Nat := s.aBudget.toNat - s.att.toNat

/-- What is left of the operation, compared lexicographically. -/
def State.rank (s : State) : ℕ ×ₗ ℕ ×ₗ ℕ ×ₗ ℕ ×ₗ ℕ :=
  toLex (s.blocksLeft, toLex (s.bytesLeft, toLex (s.todo.phase, toLex (s.placesLeft, s.readsLeft))))

/-- `t` has the same blocks and bytes to come as `s`. -/
def State.SameParts (s t : State) : Prop := t.blocksLeft = s.blocksLeft ∧ t.bytesLeft = s.bytesLeft

theorem State.rank_lt_of_blocks (h : t.blocksLeft < s.blocksLeft) : t.rank < s.rank := by
  simp [State.rank, Prod.Lex.toLex_lt_toLex, h]

theorem State.rank_lt_of_bytes (hk : t.blocksLeft = s.blocksLeft) (h : t.bytesLeft < s.bytesLeft) :
    t.rank < s.rank := by
  simp [State.rank, Prod.Lex.toLex_lt_toLex, hk, h]

theorem State.SameParts.rank_lt_of_phase (hp : s.SameParts t) (h : t.todo.phase < s.todo.phase) : t.rank < s.rank := by
  obtain ⟨hk, hb⟩ := hp
  simp [State.rank, Prod.Lex.toLex_lt_toLex, hk, hb, h]

theorem State.SameParts.rank_lt_of_places (hp : s.SameParts t) (hph : t.todo.phase = s.todo.phase)
    (h : t.placesLeft < s.placesLeft) : t.rank < s.rank := by
  obtain ⟨hk, hb⟩ := hp
  simp [State.rank, Prod.Lex.toLex_lt_toLex, hk, hb, hph, h]

theorem State.SameParts.rank_lt_of_reads (hp : s.SameParts t) (hph : t.todo.phase = s.todo.phase)
    (hpl : t.placesLeft = s.placesLeft) (h : t.readsLeft < s.readsLeft) : t.rank < s.rank := by
  obtain ⟨hk, hb⟩ := hp
  simp [State.rank, Prod.Lex.toLex_lt_toLex, hk, hb, hph, hpl, h]

/-- The end of an operation is its last part. -/
theorem State.SameParts.toCompletion_rank_lt (hp : s.SameParts t) (h : 0 < s.todo.phase) :
    t.toCompletion.rank < s.rank :=
  State.SameParts.rank_lt_of_phase hp h

/-! ### Cycles and missed polls lower the rank -/

/-- A cycle before the last of its sequence. -/
theorem State.cycleSent_rank_lt {k : CycleKind} (hcfg : s.cfg.WF) (ht : s.todo = .cycle k)
    (hlt : s.seqIdx.toNat < s.sequenceLength k) (hne : s.seqIdx.toNat + 1 ≠ s.sequenceLength k) :
    (s.cycleSent k (s.seqIdx.toNat + 1)).rank < s.rank := by
  have hsix := State.sequenceLength_le_six (k := k) hcfg
  have hidx : (BitVec.ofNat 3 (s.seqIdx.toNat + 1)).toNat = s.seqIdx.toNat + 1 := toNat_ofNat_of_lt (by omega)
  have hlen : { s with seqIdx := BitVec.ofNat 3 (s.seqIdx.toNat + 1) }.sequenceLength k = s.sequenceLength k := by
    cases k <;> rfl
  rw [State.cycleSent_of_not_last hne]
  refine State.SameParts.rank_lt_of_places ⟨rfl, rfl⟩ rfl ?_
  have hnew := State.placesLeft_of_cycle (s := { s with seqIdx := BitVec.ofNat 3 (s.seqIdx.toNat + 1) }) ht
  rw [hlen] at hnew
  rw [hnew, hidx, State.placesLeft_of_cycle ht]
  omega

/-- A poll read that misses within its budget. -/
theorem State.pollMissed_rank_lt (hatt : s.att.toNat < s.aBudget.toNat) (hb : s.pollMissed.busy = true) :
    s.pollMissed.rank < s.rank := by
  obtain ⟨e, -⟩ := State.pollMissed_of_busy hatt hb
  have hlt := s.aBudget.isLt
  have hone : (s.att + 1).toNat = s.att.toNat + 1 := BitVec.toNat_add_of_lt (by simp; omega)
  rw [e]
  refine State.SameParts.rank_lt_of_reads ⟨rfl, rfl⟩ rfl rfl ?_
  simp only [State.readsLeft, hone]
  omega

/-! ### Inside the bodies (R144, R145) -/

theorem State.EraseStage.phase_pos (h : s.EraseStage) : 0 < s.todo.phase := by
  obtain ⟨-, -, ⟨-, ht, -⟩ | ⟨-, ht, -⟩⟩ := h <;> simp [ht, Todo.phase]

theorem State.EraseStage.blocksLeft_eq (h : s.EraseStage) : s.blocksLeft = 2 ^ 32 - s.blkIdx.toNat :=
  if_pos h.fsm_erasing

/-- A step inside `EraseBody` lowers the rank, or ends the block. -/
theorem State.EraseStage.rank_lt_or_blockDone (hcfg : s.cfg.WF) (h : s.EraseStage) (ha : s.Advances t)
    (hb : t.busy = true) : t.rank < s.rank ∨ ∃ q, t = { s with seqIdx := q }.blockDone := by
  have hblocks := h.blocksLeft_eq
  have hcap := capacity_le_of_wf hcfg
  obtain ⟨hlo, hend, ⟨hf, ht, hlt⟩ | ⟨hf, ht, h4, hge, hcur, hatt⟩⟩ := h
  · cases ha with
    | read r ht' => simp [ht] at ht'
    | cycle k ht' hlt' =>
      obtain rfl : k = .erase := by simpa [ht] using ht'.symm
      by_cases hlast : s.seqIdx.toNat + 1 = 6
      swap
      · exact .inl (State.cycleSent_rank_lt hcfg ht hlt hlast)
      have e : s.cycleSent .erase (s.seqIdx.toNat + 1) =
          { s with seqIdx := BitVec.ofNat 3 (s.seqIdx.toNat + 1) }.pollBlockFrom s.locAddr.toNat := if_pos hlast
      rw [e]
      cases hn : nextAligned s.locAddr.toNat s.blockEnd with
      | none => exact .inr ⟨_, State.pollBlockFrom_of_none hn⟩
      | some w =>
        left
        rw [State.pollBlockFrom_of_some (s := { s with seqIdx := BitVec.ofNat 3 (s.seqIdx.toNat + 1) }) hn]
        exact State.SameParts.rank_lt_of_phase ⟨hblocks.symm, rfl⟩ (by simp [ht, Todo.phase])
  · cases ha with
    | cycle k ht' _ => simp [ht] at ht'
    | read r _ =>
      by_cases hr : ReadsErased s.cfg r
      swap
      · rw [State.readDone_of_not_erased hf hr] at hb ⊢
        exact .inl (State.pollMissed_rank_lt hatt hb)
      rw [State.readDone_of_erased hf hr]
      cases hn : nextAligned (s.cur.toNat + 1) s.blockEnd with
      | none => exact .inr ⟨s.seqIdx, State.pollBlockFrom_of_none hn⟩
      | some w =>
        left
        obtain ⟨-, hlow, -, hhigh⟩ := nextAligned_eq_some_iff.mp hn
        have hw : (BitVec.ofNat 32 w).toNat = w := toNat_ofNat_of_lt (by omega)
        rw [State.pollBlockFrom_of_polling hf hn]
        refine State.SameParts.rank_lt_of_places ⟨rfl, rfl⟩ (by simp only [ht]) ?_
        have hnew : { s with att := 0, cur := BitVec.ofNat 32 w, todo := .read }.placesLeft = s.blockEnd - w :=
          congrArg (s.blockEnd - ·) hw
        have hold : s.placesLeft = s.blockEnd - s.cur.toNat := by simp only [State.placesLeft, ht]
        omega

/-- A step inside `ProgramBody` lowers the rank, or ends the byte. -/
theorem State.ProgramStage.rank_lt_or_byteDone (hcfg : s.cfg.WF) (h : s.ProgramStage) (ha : s.Advances t)
    (hb : t.busy = true) : t.rank < s.rank ∨ (s.fsm = .programPoll ∧ s.todo = .read ∧ t = s.byteDone) := by
  obtain ⟨-, ⟨hf, ht, hlt⟩ | ⟨hf, ht, -, hatt⟩⟩ := h
  · cases ha with
    | read r ht' => simp [ht] at ht'
    | cycle k ht' hlt' =>
      obtain rfl : k = .program := by simpa [ht] using ht'.symm
      left
      by_cases hlast : s.seqIdx.toNat + 1 = 4
      swap
      · exact State.cycleSent_rank_lt hcfg ht hlt hlast
      have e : s.cycleSent .program (s.seqIdx.toNat + 1) =
          { s with seqIdx := BitVec.ofNat 3 (s.seqIdx.toNat + 1), fsm := .programPoll }.startPoll s.locAddr :=
        if_pos hlast
      rw [e]
      exact State.SameParts.rank_lt_of_phase ⟨by simp [State.blocksLeft, hf], rfl⟩ (by simp [ht, Todo.phase])
  · cases ha with
    | cycle k ht' _ => simp [ht] at ht'
    | read r _ =>
      by_cases hr : r.r0 = s.locVal
      · exact .inr ⟨hf, ht, State.readDone_of_match hf hr⟩
      · rw [State.readDone_of_mismatch hf hr] at hb ⊢
        exact .inl (State.pollMissed_rank_lt hatt hb)

/-! ### Behind a block (R146, R154) -/

/-- A later block begins. -/
theorem State.EraseStage.startErase_rank_lt (h : s.EraseStage) (hlt : s.blkIdx.toNat < u.blkIdx.toNat) (a n : Nat) :
    (u.startErase a n).rank < s.rank := by
  have hnew : (u.startErase a n).blocksLeft = 2 ^ 32 - u.blkIdx.toNat := if_pos (.inl rfl)
  have hbound := u.blkIdx.isLt
  refine State.rank_lt_of_blocks ?_
  rw [hnew, h.blocksLeft_eq]
  omega

/-- The first byte begins: no block is left. -/
theorem State.EraseStage.programByteAt_rank_lt (h : s.EraseStage) (hdata : 0 < u.aData.length) :
    (u.programByteAt 0).rank < s.rank := by
  have hbound := s.blkIdx.isLt
  rw [State.programByteAt_of_some (List.getElem?_eq_getElem hdata)]
  refine State.rank_lt_of_blocks ?_
  rw [h.blocksLeft_eq]
  simp only [State.blocksLeft, State.startProgram, reduceCtorEq, or_self, if_false]
  omega

/-- A block of the plan is followed by the next, or by `after`. -/
theorem State.EraseStage.planBlockDone_rank_lt (hcfg : u.cfg.WF) (h : s.EraseStage) (hblk : u.blkIdx = s.blkIdx)
    {start : Nat} (hp : u.PlanStage start) {after : State → State} (hafter : (after u.countPlanBlock).rank < s.rank) :
    (u.planBlockDone after).rank < s.rank := by
  obtain ⟨hi, -⟩ := hp
  obtain ⟨-, hi24, -⟩ := plan_block_of_wf hcfg hi
  have hnext : (BitVec.ofNat 32 (u.blkIdx.toNat + 1)).toNat = s.blkIdx.toNat + 1 :=
    hblk ▸ toNat_ofNat_of_lt (by omega)
  rw [State.planBlockDone_eq]
  cases hn : u.cfg.eraseChipPlan[u.blkIdx.toNat + 1]? with
  | none =>
    rw [State.eraseChipBlock_of_none (s := u.countPlanBlock) hn]
    exact hafter
  | some n =>
    rw [State.eraseChipBlock_of_some (s := u.countPlanBlock) hn]
    exact h.startErase_rank_lt (hnext.symm ▸ Nat.lt_succ_self _) _ _

/-- A block of the minimal erase is followed by the next, or by the first byte. -/
theorem State.EraseStage.minimalEraseBlock_rank_lt (hcfg : s.cfg.WF) (h : s.EraseStage)
    (hblk : s.locAddr.toNat = s.minimalBlock s.blkIdx.toNat) (hdata : 0 < s.aData.length) (q : BitVec 3) :
    ({ s with seqIdx := q }.minimalEraseBlock (s.blkIdx.toNat + 1)).rank < s.rank := by
  have hcap := capacity_le_of_wf hcfg
  obtain ⟨hlo, -⟩ := id h
  obtain ⟨-, ⟨-, hb4, -⟩, -⟩ := hcfg
  have hi : s.blkIdx.toNat ≤ s.minimalBlock s.blkIdx.toNat := by
    calc s.blkIdx.toNat ≤ s.blkIdx.toNat * s.cfg.eraseBlockSize := Nat.le_mul_of_pos_right _ (by omega)
      _ ≤ s.minimalBlock s.blkIdx.toNat := Nat.le_add_left _ _
  have hnext : (BitVec.ofNat 32 (s.blkIdx.toNat + 1)).toNat = s.blkIdx.toNat + 1 := toNat_ofNat_of_lt (by omega)
  by_cases hlt : { s with seqIdx := q }.minimalBlock (s.blkIdx.toNat + 1) < { s with seqIdx := q }.windowEnd
  · rw [State.minimalEraseBlock_of_lt hlt]
    exact h.startErase_rank_lt (by simp only [hnext]; omega) _ _
  · rw [State.minimalEraseBlock_of_not_lt hlt]
    exact h.programByteAt_rank_lt hdata

/-! ### Every operation (R150 to R154, 42_identification.md R130) -/

theorem State.InIdentify.rank_lt (hcfg : s.cfg.WF) (h : s.InIdentify) (ha : s.Advances t) (hb : t.busy = true) :
    t.rank < s.rank := by
  obtain ⟨-, -, hf, hparts⟩ := h
  cases ha with
  | read r ht =>
    have e : s.readDone r = s.idRead r := by simp [State.readDone, hf]
    rw [e]
    exact State.SameParts.rank_lt_of_phase ⟨rfl, rfl⟩ (by simp [ht, State.idRead, Todo.phase])
  | cycle k ht hlt =>
    by_cases hlast : s.seqIdx.toNat + 1 = s.sequenceLength k
    swap
    · exact State.cycleSent_rank_lt hcfg ht hlt hlast
    rcases hparts with ⟨ht', -⟩ | ⟨ht', -⟩ | ⟨ht', -⟩ | ⟨ht', -⟩
    · obtain rfl : k = .ident := by simpa [ht] using ht'
      have e : s.cycleSent .ident (s.seqIdx.toNat + 1) =
          { s with seqIdx := BitVec.ofNat 3 (s.seqIdx.toNat + 1) }.toRead s.cfg.idReadAddr := if_pos hlast
      rw [e]
      exact State.SameParts.rank_lt_of_phase ⟨rfl, rfl⟩ (by simp [ht, Todo.phase])
    · simp [ht] at ht'
    · obtain rfl : k = .reset := by simpa [ht] using ht'
      by_cases hs : s.cfg.isSupported s.locId = true
      · have e : s.cycleSent .reset (s.seqIdx.toNat + 1) =
            { s with seqIdx := BitVec.ofNat 3 (s.seqIdx.toNat + 1) }.toCompletion := (if_pos hlast).trans (if_pos hs)
        rw [e]
        exact State.SameParts.rank_lt_of_phase ⟨rfl, rfl⟩ (by simp [ht, Todo.phase])
      · have e : s.cycleSent .reset (s.seqIdx.toNat + 1) =
            { s with seqIdx := BitVec.ofNat 3 (s.seqIdx.toNat + 1) }.raise .unsupportedChip s.locId :=
          (if_pos hlast).trans (if_neg hs)
        simp [e] at hb
    · simp [ht] at ht'

theorem State.InEraseBlock.rank_lt (hcfg : s.cfg.WF) (h : s.InEraseBlock) (ha : s.Advances t) (hb : t.busy = true) :
    t.rank < s.rank := by
  obtain ⟨ho, -, -, -, -, -, hst | ⟨-, ht⟩ | ⟨-, ht⟩⟩ := h
  · rcases hst.rank_lt_or_blockDone hcfg ha hb with hlt | ⟨q, rfl⟩
    · exact hlt
    · rw [State.blockDone_of_eraseBlock (s := { s with seqIdx := q }) ho]
      exact State.SameParts.rank_lt_of_phase ⟨rfl, rfl⟩ hst.phase_pos
  all_goals exact absurd ht ha.todo_ne_complete

theorem State.InEraseChip.rank_lt (hcfg : s.cfg.WF) (h : s.InEraseChip) (ha : s.Advances t) (hb : t.busy = true) :
    t.rank < s.rank := by
  obtain ⟨ho, -, -, -, ⟨hp, hst⟩ | ⟨-, ht⟩ | ⟨-, ht⟩⟩ := h
  · rcases hst.rank_lt_or_blockDone hcfg ha hb with hlt | ⟨q, rfl⟩
    · exact hlt
    · rw [State.blockDone_of_eraseChip (s := { s with seqIdx := q }) ho]
      exact hst.planBlockDone_rank_lt (u := { s with seqIdx := q }) hcfg rfl hp
        (State.SameParts.rank_lt_of_phase ⟨rfl, rfl⟩ hst.phase_pos)
  all_goals exact absurd ht ha.todo_ne_complete

theorem State.InProgramByte.rank_lt (hcfg : s.cfg.WF) (h : s.InProgramByte) (ha : s.Advances t) (hb : t.busy = true) :
    t.rank < s.rank := by
  obtain ⟨ho, -, -, -, -, hst | ⟨-, ht⟩⟩ := h
  · rcases hst.rank_lt_or_byteDone hcfg ha hb with hlt | ⟨-, hr, rfl⟩
    · exact hlt
    · rw [State.byteDone_of_programByte ho]
      exact State.SameParts.toCompletion_rank_lt ⟨rfl, rfl⟩ (by simp [hr, Todo.phase])
  · exact absurd ht ha.todo_ne_complete

theorem State.InReadFlash.rank_lt (hcfg : s.cfg.WF) (h : s.InReadFlash) (ha : s.Advances t) : t.rank < s.rank := by
  have hcap := capacity_le_of_wf hcfg
  obtain ⟨-, hwin, hf, -, ⟨ht, hlt, -⟩ | ⟨ht, -⟩⟩ := h
  · cases ha with
    | cycle k ht' _ => simp [ht] at ht'
    | read r _ =>
      have hend : s.aAddr.toNat + s.aLen.toNat ≤ s.cfg.capacity := hwin
      have hidx : (s.byteIdx + 4).toNat = s.byteIdx.toNat + 4 := BitVec.toNat_add_of_lt (by simp; omega)
      have hfall : (s.takeWord r).bytesLeft < s.bytesLeft := by
        have hnew : (s.takeWord r).bytesLeft = s.aLen.toNat - (s.byteIdx.toNat + 4) := congrArg (s.aLen.toNat - ·) hidx
        have hold : s.bytesLeft = s.aLen.toNat - s.byteIdx.toNat := rfl
        omega
      by_cases hmore : s.byteIdx.toNat + 4 < s.aLen.toNat
      · rw [State.readDone_of_more hf hmore]
        exact State.rank_lt_of_bytes rfl hfall
      · rw [State.readDone_of_last hf (by omega)]
        exact State.rank_lt_of_bytes rfl hfall
  · exact absurd ht ha.todo_ne_complete

/-- The end of a byte of WRITE_FLASH. -/
theorem State.programByteAt_succ_rank_lt (hlen : s.aData.length = s.aLen.toNat) (hf : s.fsm = .programPoll)
    (ht : s.todo = .read) : (s.programByteAt (s.byteIdx.toNat + 1)).rank < s.rank := by
  have hblocks : s.blocksLeft = 0 := if_neg (by simp [hf])
  cases hd : s.aData[s.byteIdx.toNat + 1]? with
  | none =>
    rw [State.programByteAt_of_none hd]
    exact State.SameParts.toCompletion_rank_lt ⟨rfl, rfl⟩ (by simp [ht, Todo.phase])
  | some d =>
    have hlt : s.byteIdx.toNat + 1 < s.aLen.toNat := hlen ▸ (List.getElem?_eq_some_iff.mp hd).1
    have hbound := s.aLen.isLt
    have hidx : (BitVec.ofNat 32 (s.byteIdx.toNat + 1)).toNat = s.byteIdx.toNat + 1 := toNat_ofNat_of_lt (by omega)
    rw [State.programByteAt_of_some hd]
    refine State.rank_lt_of_bytes ?_ ?_
    · rw [hblocks]
      simp [State.blocksLeft, State.startProgram]
    · simp only [State.bytesLeft, State.startProgram, hidx]
      omega

theorem State.InWriteFlash.rank_lt (hcfg : s.cfg.WF) (h : s.InWriteFlash) (ha : s.Advances t) (hb : t.busy = true) :
    t.rank < s.rank := by
  obtain ⟨ho, -, -, hlen, hpos, hparts⟩ := h
  have hdata : 0 < s.aData.length := hlen ▸ hpos
  rcases hparts with ⟨hwhole, hp, hst⟩ | ⟨hwhole, hblk, -, -, hst⟩ | ⟨-, -, -, hst⟩ | ⟨-, ht⟩
  · rcases hst.rank_lt_or_blockDone hcfg ha hb with hlt | ⟨q, rfl⟩
    · exact hlt
    · rw [State.blockDone_of_whole (s := { s with seqIdx := q }) ho hwhole]
      exact hst.planBlockDone_rank_lt (u := { s with seqIdx := q }) hcfg rfl hp (hst.programByteAt_rank_lt hdata)
  · rcases hst.rank_lt_or_blockDone hcfg ha hb with hlt | ⟨q, rfl⟩
    · exact hlt
    · rw [State.blockDone_of_minimal (s := { s with seqIdx := q }) ho hwhole]
      exact hst.minimalEraseBlock_rank_lt hcfg hblk hdata q
  · rcases hst.rank_lt_or_byteDone hcfg ha hb with hlt | ⟨hf, hr, rfl⟩
    · exact hlt
    · rw [State.byteDone_of_writeFlash ho]
      exact State.programByteAt_succ_rank_lt hlen hf hr
  · exact absurd ht ha.todo_ne_complete

theorem State.InOperation.rank_lt (hcfg : s.cfg.WF) (h : s.InOperation) (ha : s.Advances t) (hb : t.busy = true) :
    t.rank < s.rank := by
  rcases h with ⟨-, h⟩ | ⟨-, ⟨-, h⟩ | ⟨-, h⟩ | ⟨-, h⟩ | ⟨-, h⟩ | ⟨-, h⟩⟩
  · exact h.rank_lt hcfg ha hb
  · exact h.rank_lt hcfg ha hb
  · exact h.rank_lt hcfg ha hb
  · exact h.rank_lt hcfg ha hb
  · exact h.rank_lt hcfg ha
  · exact h.rank_lt hcfg ha hb

/-! ### From the rank to the end of the operation -/

theorem State.completion_done : s.completion.done = true := by
  unfold State.completion
  split <;> rfl

/-- A busy FCB's step lowers the rank or ends the operation. -/
theorem State.Inv.fcbStep_rank_lt_or_ends (h : s.Inv) (hb : s.busy = true) (he : Machine.fcbStep s = .next t) :
    (t.busy = true ∧ t.rank < s.rank) ∨ (t.busy = false ∧ t.done = true) := by
  obtain ⟨hcfg, -, hseq⟩ := h
  have hop := hseq hb
  rcases fcbStep_of_busy hb he with ⟨la, hla, hs⟩ | ⟨-, rfl⟩
  · obtain rfl : la = s.locAddr := hla (hop.locAddr_lt hcfg)
    cases hs with
    | failed f n m a => exact .inr ⟨rfl, rfl⟩
    | went f n m t ha =>
      cases hbt : t.busy with
      | true => exact .inl ⟨rfl, State.InOperation.rank_lt (s := s.send f n m) hcfg hop ha hbt⟩
      | false =>
        rcases ha.cases_raise with ⟨w, e, v, -, -, rfl⟩ | hk
        · exact .inr ⟨rfl, rfl⟩
        · have hkeep : t.busy = s.busy := hk.busy
          simp [hb, hbt] at hkeep
  · exact .inr ⟨State.completion_busy, State.completion_done⟩

/-- Settles O56: the rank falls with every step, so some step ends the operation. -/
theorem everyOperationEnds : Obligations.EveryOperationEnds := by
  intro s
  induction s using (InvImage.wf State.rank wellFounded_lt).induction with
  | _ s ih =>
    intro hinv hhost hb
    obtain ⟨t, he⟩ := hinv.seq.fcbStep_answers
    have hstep : step s = .next t := (step_of_no_host hinv.configured hhost).trans he
    rcases hinv.fcbStep_rank_lt_or_ends hb he with ⟨hbt, hlt⟩ | hends
    · obtain ⟨-, hkeep⟩ := fcbStep_keeps he
      obtain ⟨k, u, hrun, hend⟩ := ih t hlt (hinv.fcbStep he) (hkeep.trans hhost) hbt
      exact ⟨k + 1, u, (run_of_step hstep k).trans hrun, hend⟩
    · exact ⟨1, t, run_of_step hstep 0, hends⟩

end Sys2Proof.Machine

/-! # Exceptions (60_exceptions.md)

R181's checks as one list for every request, read off condition by condition; and which errors a busy FCB can raise, with
what their abort leaves. -/

namespace Sys2Proof.Machine

variable {s t u : State} {i : Instr}

/-! ### The acceptance checks (R181) -/

/-- A check that `p` says whether to make. -/
def Check.when (p : Prop) [Decidable p] (c : Check) : List Check := if p then [c] else []

theorem State.guarded_when (p : Prop) [Decidable p] (c : Check) (cs : List Check) (rule : State → State) :
    s.guarded (c.when p ++ cs) rule =
      if p ∧ c.failed = true then s.raise c.error c.info else s.guarded cs rule := by
  by_cases hp : p <;> simp [Check.when, hp]

/-- The operations with a poll budget (R181, check 4). -/
def budgetedOperations : List Instr := [.eraseBlock, .eraseChip, .programByte, .writeFlash, .writeFlashWhole]

/-- The operations that write their payload to the chip (R181, check 4). -/
def writeOperations : List Instr := [.writeFlash, .writeFlashWhole]

theorem budgeted_of_write (h : i ∈ writeOperations) : i ∈ budgetedOperations := by
  revert i; decide

theorem flash_of_budgeted (h : i ∈ budgetedOperations) : i ∈ flashOperations := by
  revert i; decide

/-- READ_FLASH polls nothing. -/
theorem budgeted_of_flash (h : i ∈ flashOperations) (hne : i ≠ .readFlash) : i ∈ budgetedOperations := by
  revert i; decide

/-- Check 5's window condition on the latched operands, as each operation's rule decides it. -/
def State.windowFits (u : State) : Instr → Bool
  | .eraseBlock => u.aAddr.toNat < u.cfg.capacity && u.windowEnd ≤ u.cfg.capacity
  | .eraseChip => u.aAddr.toNat < u.cfg.capacity && u.aAddr.toNat + u.cfg.planTotal ≤ u.cfg.capacity
  | .programByte => u.aAddr.toNat < u.cfg.capacity
  | .readFlash | .writeFlash | .writeFlashWhole => u.windowEnd ≤ u.cfg.capacity
  | _ => true

theorem windowFits_iff_inRange (w : Word) : (s.afterAcceptance w).windowFits i = true ↔ inRange i s := by
  cases i <;> simp [State.windowFits, inRange, State.windowEnd, State.afterAcceptance, Config.planTotal]

/-- The checks of a request in R181's order. -/
def acceptanceChecks (i : Instr) (u : State) : List Check :=
  u.readyCheck.when (i ∈ flashOperations) ++ (u.dialectCheck.when (i ∈ flashOperations) ++
    (u.budgetCheck.when (i ∈ budgetedOperations) ++ (u.addressCheck.when (i = .buildFrameA3) ++
    (u.payloadCheck.when (i = .encryptBuffer ∨ i ∈ writeOperations) ++
    ((u.rangeCheck (u.windowFits i)).when (i ∈ flashOperations) ++ [])))))

/-- R181's conditions on the registers, in their order. -/
theorem State.guarded_acceptanceChecks (w : Word) (rule : State → State) :
    (s.afterAcceptance w).guarded (acceptanceChecks i (s.afterAcceptance w)) rule =
      if i ∈ flashOperations ∧ s.dialect = .none then (s.afterAcceptance w).afterAbort .notReady 0
      else if i ∈ flashOperations ∧ s.dialect = .typeB then (s.afterAcceptance w).afterAbort .unimplemented 0
      else if i ∈ budgetedOperations ∧ s.arg2 = 0 then (s.afterAcceptance w).afterAbort .invalidArgument s.arg2
      else if i = .buildFrameA3 ∧ s.arg1.extractLsb' 24 8 ≠ 0 then
        (s.afterAcceptance w).afterAbort .invalidArgument s.arg1
      else if (i = .encryptBuffer ∨ i ∈ writeOperations) ∧ s.dataIn.length ≠ s.arg1.toNat then
        (s.afterAcceptance w).afterAbort .invalidArgument s.arg1
      else if i ∈ flashOperations ∧ ¬ (s.afterAcceptance w).windowFits i = true then
        (s.afterAcceptance w).afterAbort .outOfRange s.arg0
      else rule (s.afterAcceptance w) := by
  have hrange {b : Bool} : ((s.afterAcceptance w).rangeCheck b).failed = true ↔ ¬ b = true := by
    simp [State.rangeCheck]
  simp only [acceptanceChecks, State.guarded_when, State.guarded_nil, State.readyCheck_fails, State.dialectCheck_fails,
    State.budgetCheck_fails, State.addressCheck_fails, State.payloadCheck_fails, hrange]
  rfl

/-- The conditions of each rejection are those of its check and, negated, of the checks before it. -/
theorem Rejects.aborts {e : ErrCode} {v w : Word} (h : Rejects i s e v) (rule : State → State) :
    (s.afterAcceptance w).guarded (acceptanceChecks i (s.afterAcceptance w)) rule =
      (s.afterAcceptance w).afterAbort e v := by
  rw [State.guarded_acceptanceChecks]
  cases h with
  | notReady hi hd => exact if_pos ⟨hi, hd⟩
  | unimplemented hi hd => simp [hi, hd]
  | budget hi hd h0 =>
    have hi : i ∈ budgetedOperations := hi
    simp [hi, hd, h0]
  | address hi haddr =>
    subst hi
    rw [if_neg (by simp [flashOperations]), if_neg (by simp [flashOperations]), if_neg (by simp [budgetedOperations]),
      if_pos ⟨rfl, haddr⟩]
  | buffer hi hlen =>
    subst hi
    simp [flashOperations, budgetedOperations, hlen]
  | payload hi hd h0 hlen =>
    have hi : i ∈ writeOperations := hi
    have hne : i ≠ .buildFrameA3 := by rintro rfl; simp [writeOperations] at hi
    rw [if_neg (by simp [hd]), if_neg (by simp [hd]), if_neg (mt And.right h0), if_neg (by simp [hne]),
      if_pos ⟨.inr hi, hlen⟩]
  | range hi hd hbud hlen hwin =>
    have hbud : ¬ (i ∈ budgetedOperations ∧ s.arg2 = 0) := fun ⟨hb, h0⟩ =>
      hbud (by rintro rfl; simp [budgetedOperations] at hb) h0
    have hpure : i ≠ .buildFrameA3 ∧ i ≠ .encryptBuffer := by
      constructor <;> rintro rfl <;> simp [flashOperations] at hi
    have hlen : i ∈ writeOperations → s.dataIn.length = s.arg1.toNat := hlen
    have hwin : ¬ (s.afterAcceptance w).windowFits i = true := mt (windowFits_iff_inRange w).mp hwin
    rw [if_neg (by simp [hd]), if_neg (by simp [hd]), if_neg hbud, if_neg (by simp [hpure]),
      if_neg (by simpa [hpure] using hlen), if_pos ⟨hi, hwin⟩]

/-- With no rejection no check fails: one that does has the conditions of its rejection, since those before it pass. -/
theorem guarded_of_not_rejects (w : Word) (h : ∀ e v, ¬ Rejects i s e v) (rule : State → State) :
    (s.afterAcceptance w).guarded (acceptanceChecks i (s.afterAcceptance w)) rule = rule (s.afterAcceptance w) := by
  have hnone : ¬ (i ∈ flashOperations ∧ s.dialect = .none) := fun ⟨hi, hd⟩ => h _ _ (.notReady hi hd)
  have htypeB : ¬ (i ∈ flashOperations ∧ s.dialect = .typeB) := fun ⟨hi, hd⟩ => h _ _ (.unimplemented hi hd)
  have htypeA (hi : i ∈ flashOperations) : s.dialect = .typeA := by
    cases hd : s.dialect with
    | none => exact absurd ⟨hi, hd⟩ hnone
    | typeA => rfl
    | typeB => exact absurd ⟨hi, hd⟩ htypeB
  have hbudget : ¬ (i ∈ budgetedOperations ∧ s.arg2 = 0) := fun ⟨hi, h0⟩ =>
    h _ _ (.budget hi (htypeA (flash_of_budgeted hi)) h0)
  have haddress : ¬ (i = .buildFrameA3 ∧ s.arg1.extractLsb' 24 8 ≠ 0) := fun ⟨hi, ha⟩ => h _ _ (.address hi ha)
  have hpayload : ¬ ((i = .encryptBuffer ∨ i ∈ writeOperations) ∧ s.dataIn.length ≠ s.arg1.toNat) := by
    rintro ⟨hi | hi, hlen⟩
    · exact h _ _ (.buffer hi hlen)
    · have hb := budgeted_of_write hi
      exact h _ _ (.payload hi (htypeA (flash_of_budgeted hb)) (fun h0 => hbudget ⟨hb, h0⟩) hlen)
  have hwindow : ¬ (i ∈ flashOperations ∧ ¬ (s.afterAcceptance w).windowFits i = true) := fun ⟨hi, hwin⟩ =>
    h _ _ (.range hi (htypeA hi) (fun hne h0 => hbudget ⟨budgeted_of_flash hi hne, h0⟩)
      (fun hw => not_not.mp fun hlen => hpayload ⟨.inr hw, hlen⟩) (mt (windowFits_iff_inRange w).mpr hwin))
  rw [State.guarded_acceptanceChecks, if_neg hnone, if_neg htypeB, if_neg hbudget, if_neg haddress, if_neg hpayload,
    if_neg hwindow]

/-- The rule leaves the error registers as the acceptance set them. -/
def KeepsError (rule : State → State) : Prop := ∀ u : State, (rule u).err = u.err ∧ (rule u).errInfo = u.errInfo

theorem State.SequencerOnly.keeps_error (h : u.SequencerOnly t) : t.err = u.err ∧ t.errInfo = u.errInfo :=
  ⟨h.err, h.errInfo⟩

theorem writeFlashRule_eq_guarded :
    ∃ rule, (∀ u : State, u.writeFlashRule = u.guarded (acceptanceChecks .writeFlash u) rule) ∧ KeepsError rule := by
  refine ⟨_, fun u => rfl, fun u => ?_⟩
  split
  · exact ⟨rfl, rfl⟩
  · unfold State.begin
    dsimp only
    split
    · exact (State.eraseChipBlock_sequencerOnly { u with busy := true, outer := .writeFlash, doneBytes := 0 } 0 _
        fun v => v.programByteAt_sequencerOnly 0).keeps_error
    · exact (State.minimalEraseBlock_sequencerOnly { u with busy := true, outer := .writeFlash } 0).keeps_error

/-- Every request is R181's checks and then a rule that raises no error. -/
theorem exec_eq_request {w : Word} (h : encode s.cfg i = .request w) :
    ∃ rule, exec i s = .next (s.request w fun u => u.guarded (acceptanceChecks i u) rule) ∧ KeepsError rule := by
  cases i <;> simp only [encode, Code.request.injEq, reduceCtorEq] at h <;> subst h
  case writeFlash | writeFlashWhole =>
    obtain ⟨rule, he, hk⟩ := writeFlashRule_eq_guarded
    exact ⟨rule, congrArg (fun r => Host.Outcome.next (s.request _ r)) (funext he), hk⟩
  case encryptByte => exact ⟨fun u => u.complete ((encryptByte u.byteOperand).setWidth 32) 0, rfl, fun u => ⟨rfl, rfl⟩⟩
  all_goals refine ⟨_, rfl, fun u => ?_⟩
  case eraseChip =>
    exact (State.eraseChipBlock_sequencerOnly { u with busy := true, outer := .eraseChip, doneBytes := 0 } 0 _
      State.toCompletion_sequencerOnly).keeps_error
  case readFlash => split <;> exact ⟨rfl, rfl⟩
  all_goals exact ⟨rfl, rfl⟩

/-- A request that R181 rejects is aborted with the error of the first failed check. -/
theorem exec_of_rejects {e : ErrCode} {v w : Word} (hb : s.busy = false) (h : encode s.cfg i = .request w)
    (hr : Rejects i s e v) : exec i s = .next ((s.afterAcceptance w).afterAbort e v) := by
  obtain ⟨rule, he, -⟩ := exec_eq_request h
  rw [he, State.request_eq_afterAcceptance hb, hr.aborts]

/-- Settles O21: an illegal word meets no other check, and a request is R181's list of checks before its rule. -/
theorem acceptanceChecksInOrder : Obligations.AcceptanceChecksInOrder := by
  refine ⟨fun s w d hcfg hhost hb hw hd => ?_, fun s i w hb h => ⟨fun e v hr => exec_of_rejects hb h hr, fun hpass => ?_⟩⟩
  · rw [step_of_no_host hcfg hhost, fcbStep_of_illegal hb hw hd, State.illegalRequest, State.latch_eq_afterAcceptance,
      State.raise_eq_afterAbort]
  · obtain ⟨rule, he, hk⟩ := exec_eq_request h
    rw [he, State.request_eq_afterAcceptance hb, guarded_of_not_rejects w hpass]
    exact ⟨_, rfl, hk _⟩

/-- Settles O22: without TYPEA one of R181's two dialect checks rejects every flash operation. -/
theorem flashOperationsNeedADialect : Obligations.FlashOperationsNeedADialect := fun _ _ _ hi h hb =>
  ⟨fun hd => exec_of_rejects hb h (.notReady hi hd), fun hd => exec_of_rejects hb h (.unimplemented hi hd)⟩

/-! ### Errors during execution (R173, R180, R183) -/

/-- Settles O38: of a `Send` row's outcomes the abort is the one a failed answer leaves. -/
theorem failedSendAborts : Obligations.FailedSendAborts := by
  intro s i a ha hfail
  obtain ⟨la, lv, x, t, hx, he, ho⟩ := exec_send_outcome s ha
  cases ho with
  | timeout r _ hok | unsupported r _ hok | went r _ hok => simp [hfail] at hok
  | failed => exact ⟨_, x, he, hx, rfl, rfl, rfl, rfl, rfl, rfl, rfl, rfl, rfl, rfl, rfl, rfl, rfl, rfl, rfl⟩

/-- The errors a sequencer operation can end with (R183). -/
def executionErrors : List ErrCode := [.unsupportedChip, .timeout, .transportError]

/-- The computation behind a `Send` has written `SEQ_IDX` or `ATT` alone when it raises its error. -/
theorem State.Advances.abort_or_keeps_err (h : s.Advances t) :
    (∃ q a e v, e ∈ executionErrors ∧ t = { s with seqIdx := q, att := a }.afterAbort e v) ∨ t.err = s.err := by
  cases h with
  | cycle k _ _ =>
    rcases s.cycleSent_cases k (s.seqIdx.toNat + 1) with h | h
    · exact .inl ⟨_, s.att, .unsupportedChip, _, by decide, h⟩
    · exact .inr h.err
  | read r _ =>
    rcases s.readDone_cases r with h | h
    · exact .inl ⟨s.seqIdx, _, .timeout, _, by decide, h⟩
    · exact .inr h.err

/-- A step of the sequencer that raises an error has written, beside its traffic, `SEQ_IDX` or `ATT` alone. -/
theorem State.Sends.abort_or_keeps_err (h : s.Sends t) :
    (∃ f n m q a e v, e ∈ executionErrors ∧ t = { s.send f n m with seqIdx := q, att := a }.afterAbort e v) ∨
    t.err = s.err := by
  cases h with
  | failed f n m v => exact .inl ⟨f, n, m, s.seqIdx, s.att, .transportError, v, by decide, rfl⟩
  | went f n m t ha =>
    rcases ha.abort_or_keeps_err with ⟨q, a, e, v, he, ht⟩ | hk
    · exact .inl ⟨f, n, m, q, a, e, v, he, ht⟩
    · exact .inr hk

theorem State.completion_err : s.completion.err = s.err := by
  unfold State.completion
  split <;> rfl

/-- Settles O50: no error stands while busy, so the step's own abort left the one that stands after it. -/
theorem errorDuringExecutionAborts : Obligations.ErrorDuringExecutionAborts := by
  intro s t hinv hb hstep hne
  obtain ⟨-, hok⟩ := hinv.busy_cleared hb
  rcases fcbStep_of_busy hb hstep with ⟨la, -, hs⟩ | ⟨-, rfl⟩
  · rcases hs.abort_or_keeps_err with ⟨f, n, m, q, a, e, v, he, rfl⟩ | hkeep
    · exact ⟨he, rfl, rfl, rfl, rfl, rfl, rfl, rfl, rfl, rfl, rfl, rfl, rfl, rfl, rfl, rfl, rfl⟩
    · exact absurd (hkeep.trans hok) hne
  · exact absurd (State.completion_err.trans hok) hne

end Sys2Proof.Machine

/-! # Reset and hazards (70_reset_and_hazards.md)

The reset input and the requests an FCB admits after it; that no agent writes `CFG`; and that a busy FCB's step commutes
with any change of the operand registers, shown for the computation behind a `Send` branch by branch. -/

namespace Sys2Proof.Machine

variable {s t : State} {i : Instr}

/-! ### The reset input (R200, R201) -/

theorem step_of_reset {rest : List HostAction} (hcfg : s.cfg.WF) (hhost : s.host = .reset :: rest) :
    step s = .next { s with host := rest }.resetInput := by
  rw [step_of_wf hcfg]
  simp only [machineStep, hhost]

/-- Settles O44: the reset input waits for nothing, and it takes every FCB register from the reset state. -/
theorem resetInput : Obligations.ResetInput := by
  intro s rest hcfg hhost
  refine ⟨_, step_of_reset hcfg hhost, ?_⟩
  and_intros <;> rfl

/-! ### The configuration (R204) -/

theorem State.HostSideOnly.cfg (h : s.HostSideOnly t) : t.cfg = s.cfg := by rw [h]

/-- Settles O46: the FCB's steps, the host's and the reset input each keep `CFG`. -/
theorem configurationIsFixed : Obligations.ConfigurationIsFixed := by
  intro s t h
  refine step_preserves (P := fun u => u.cfg = s.cfg) (fun u v _ hu he => ?_) (fun u v hu hk => hk.cfg.trans hu)
    (fun u hu => hu) rfl h
  obtain ⟨hkeep, -⟩ := fcbStep_keeps he
  exact hkeep.trans hu

/-! ### What the state after reset admits (R202, R205) -/

/-- `t` is the end of an operation of `s` without an error and without a frame. -/
def State.EndsSilently (s t : State) : Prop := t.err = .ok ∧ t.done = true ∧ t.busy = false ∧ t.sent = s.sent

/-- The operations without a payload that need neither the chip nor a dialect (R202). -/
theorem exec_endsSilently (hb : s.busy = false) (haddr : s.arg1.extractLsb' 24 8 = 0)
    (hi : i ∈ [Instr.buildFrameG, .buildFrameA3, .encryptByte, .decryptByte, .shutdown]) :
    ∃ t, exec i s = .next t ∧ s.EndsSilently t := by
  simp only [List.mem_cons, List.not_mem_nil, or_false] at hi
  rcases hi with rfl | rfl | rfl | rfl | rfl
  · obtain ⟨-, h⟩ := buildFrameG s
    exact ⟨_, h hb, rfl, rfl, rfl, rfl⟩
  · obtain ⟨-, h, -⟩ := buildFrameA3 s
    exact ⟨_, h hb haddr, rfl, rfl, rfl, rfl⟩
  · obtain ⟨h, -⟩ := byteTransformRequests s hb
    exact ⟨_, h, rfl, rfl, rfl, rfl⟩
  · obtain ⟨-, h⟩ := byteTransformRequests s hb
    exact ⟨_, h, rfl, rfl, rfl, rfl⟩
  · exact ⟨_, shutdown s hb, rfl, rfl, rfl, rfl⟩

/-- ENCRYPT_BUFFER of exactly `ARG1` bytes (R202). -/
theorem exec_encryptBuffer_endsSilently (hb : s.busy = false) (hlen : s.dataIn.length = s.arg1.toNat) :
    ∃ t, exec .encryptBuffer s = .next t ∧ s.EndsSilently t := by
  obtain ⟨h, -⟩ := encryptBuffer s hb
  obtain ⟨out, -, -, he⟩ := h hlen
  exact ⟨_, he, rfl, rfl, rfl, rfl⟩

/-- Settles O45: after reset `DIALECT` is NONE, which only the flash operations are checked for. -/
theorem whatResetAdmits : Obligations.WhatResetAdmits := by
  intro cfg w i data hcfg hd
  set s : State := { State.resetWith cfg with held := some w, dataIn := data }
  obtain ⟨t, he, -⟩ := exec_accepted (s := s) rfl hd
  have unique {u : State} (hu : exec i s = .next u) : t = u := by rwa [he, Host.Outcome.next.injEq] at hu
  refine ⟨t, (step_accepts hcfg rfl rfl rfl hd).trans he, fun hflash => ?_, fun hpure => ?_, ?_, ?_⟩
  · obtain ⟨h, -⟩ := flashOperationsNeedADialect s i w hflash (encode_of_decodeRequest cfg hd) rfl
    obtain rfl := unique (h rfl)
    exact ⟨rfl, rfl⟩
  · have haddr : (0 : Word).extractLsb' 24 8 = 0 := by decide
    obtain ⟨u, hu, hends⟩ := exec_endsSilently (s := s) rfl haddr hpure
    exact unique hu ▸ hends
  · rintro rfl rfl
    obtain ⟨u, hu, hends⟩ := exec_encryptBuffer_endsSilently (s := s) rfl rfl
    exact unique hu ▸ hends
  · rintro rfl
    obtain rfl := unique (identifyDiscardsAndBegins s rfl)
    exact ⟨rfl, rfl⟩

/-! ### The operand registers (R212, 10_state.md R24, R25) -/

/-- Values of `ARG0..3` and `DATA_IN`. -/
structure Operands where
  arg0 : Word
  arg1 : Word
  arg2 : Word
  arg3 : Word
  dataIn : List Byte

/-- `s` with the operands `o` in its operand registers. -/
def State.withOperands (o : Operands) (s : State) : State :=
  { s with arg0 := o.arg0, arg1 := o.arg1, arg2 := o.arg2, arg3 := o.arg3, dataIn := o.dataIn }

section
variable (s : State) (o : Operands)

@[simp] theorem State.withOperands_cfg : (s.withOperands o).cfg = s.cfg := rfl
@[simp] theorem State.withOperands_fsm : (s.withOperands o).fsm = s.fsm := rfl
@[simp] theorem State.withOperands_outer : (s.withOperands o).outer = s.outer := rfl
@[simp] theorem State.withOperands_op : (s.withOperands o).op = s.op := rfl
@[simp] theorem State.withOperands_aData : (s.withOperands o).aData = s.aData := rfl
@[simp] theorem State.withOperands_todo : (s.withOperands o).todo = s.todo := rfl
@[simp] theorem State.withOperands_blockEnd : (s.withOperands o).blockEnd = s.blockEnd := rfl
@[simp] theorem State.withOperands_nextAnswer : (s.withOperands o).nextAnswer = s.nextAnswer := rfl
@[simp] theorem State.withOperands_nextInstr : (s.withOperands o).nextInstr = s.nextInstr := rfl

end

/-- `f` neither reads nor writes the operand registers. -/
def OperandBlind (f : State → State) : Prop := ∀ (o : Operands) (s : State), f (s.withOperands o) = (f s).withOperands o

/-! ### The computation behind a `Send` does not see the operand registers

In the order of the definitions of Bodies.lean: whatever a rule branches on is no operand register, and no branch reads or
writes one. -/

theorem OperandBlind.toCompletion : OperandBlind State.toCompletion := fun _ _ => rfl

theorem OperandBlind.pollMissed : OperandBlind State.pollMissed := fun o s => by
  rw [State.pollMissed, State.pollMissed, apply_ite (State.withOperands o)]
  rfl

theorem OperandBlind.programByteAt (i : Nat) : OperandBlind (State.programByteAt i) := fun o s => by
  simp only [State.programByteAt, State.withOperands_aData]
  cases s.aData[i]? <;> rfl

theorem OperandBlind.eraseChipBlock (i : Nat) {after : State → State} (hafter : OperandBlind after) :
    OperandBlind (State.eraseChipBlock i after) := fun o s => by
  simp only [State.eraseChipBlock, State.withOperands_cfg]
  cases s.cfg.eraseChipPlan[i]? with
  | some n => rfl
  | none => exact hafter o s

theorem OperandBlind.planBlockDone {after : State → State} (hafter : OperandBlind after) :
    OperandBlind (State.planBlockDone after) := fun o s =>
  OperandBlind.eraseChipBlock (s.blkIdx.toNat + 1) hafter o s.countPlanBlock

theorem OperandBlind.minimalEraseBlock (i : Nat) : OperandBlind (State.minimalEraseBlock i) := fun o s => by
  simp only [State.minimalEraseBlock]
  rw [apply_ite (State.withOperands o), ← OperandBlind.programByteAt]
  rfl

theorem OperandBlind.blockDone : OperandBlind State.blockDone := fun o s => by
  simp only [State.blockDone, State.withOperands_outer]
  cases s.outer with
  | none => rfl
  | eraseChip => exact OperandBlind.planBlockDone .toCompletion o s
  | writeFlash =>
    rw [apply_ite (State.withOperands o), ← OperandBlind.planBlockDone (.programByteAt 0),
      ← OperandBlind.minimalEraseBlock]
    rfl

theorem OperandBlind.pollBlockFrom (a : Nat) : OperandBlind (State.pollBlockFrom a) := fun o s => by
  simp only [State.pollBlockFrom, State.withOperands_blockEnd]
  cases nextAligned a s.blockEnd with
  | some w => rfl
  | none => exact OperandBlind.blockDone o s

theorem OperandBlind.byteDone : OperandBlind State.byteDone := fun o s => by
  simp only [State.byteDone, State.withOperands_outer]
  cases s.outer with
  | writeFlash => exact OperandBlind.programByteAt (s.byteIdx.toNat + 1) o s
  | none | eraseChip => rfl

theorem OperandBlind.cycleSent (k : CycleKind) (n : Nat) : OperandBlind (State.cycleSent k n) := fun o s => by
  cases k with
  | ident | program =>
    simp only [State.cycleSent]
    rw [apply_ite (State.withOperands o)]
    rfl
  | reset =>
    simp only [State.cycleSent]
    rw [apply_ite (State.withOperands o), apply_ite (State.withOperands o)]
    rfl
  | erase =>
    simp only [State.cycleSent]
    rw [apply_ite (State.withOperands o), ← OperandBlind.pollBlockFrom]
    rfl

theorem OperandBlind.wordRead (r : Reply) : OperandBlind (State.wordRead r) := fun o s => by
  rw [State.wordRead_eq, State.wordRead_eq, apply_ite (State.withOperands o)]
  rfl

theorem OperandBlind.readDone (r : Reply) : OperandBlind (State.readDone r) := fun o s => by
  simp only [State.readDone, State.withOperands_fsm]
  cases s.fsm with
  | idle | ident | erasing | programming => rfl
  | erasePoll =>
    rw [apply_ite (State.withOperands o), ← OperandBlind.pollBlockFrom, ← OperandBlind.pollMissed]
    rfl
  | programPoll =>
    rw [apply_ite (State.withOperands o), ← OperandBlind.byteDone, ← OperandBlind.pollMissed]
    rfl
  | reading => exact OperandBlind.wordRead r o s

/-! ### A `Send` and the completion do not see them (00_scope.md R7, R9) -/

theorem OperandBlind.sendCycle {next : State → State} (hnext : OperandBlind next) (f : Frame) (a : Addr24) :
    OperandBlind (State.sendCycle f a next) := fun o s => by
  simp only [State.sendCycle, State.withOperands_nextAnswer]
  cases s.nextAnswer with
  | fail => rfl
  | ok r => exact hnext o (s.send f 0 s.cfg.tCycle)

theorem OperandBlind.sendRead {next : Reply → State → State} (hnext : ∀ r, OperandBlind (next r)) (f : Frame) (a : Word) :
    OperandBlind (State.sendRead f a next) := fun o s => by
  simp only [State.sendRead, State.withOperands_nextAnswer]
  cases s.nextAnswer with
  | fail => rfl
  | ok r => exact hnext r o (s.send f 4 s.cfg.tRead)

theorem OperandBlind.cycleStep (k : CycleKind) (pos : Nat) (c : Cycle) : OperandBlind (State.cycleStep k pos c) :=
  fun o s => OperandBlind.sendCycle (.cycleSent k (pos + 1)) (cycleFrame s.cfg k c) c.addr o s

theorem OperandBlind.cycleFrameSent : OperandBlind State.cycleFrameSent := fun o s => by
  simp only [State.cycleFrameSent, State.withOperands_todo]
  cases s.todo with
  | cycle k => exact OperandBlind.cycleSent k (s.seqIdx.toNat + 1) o s
  | idle | read | complete => rfl

theorem OperandBlind.completion : OperandBlind State.completion := fun o s => by
  simp only [State.completion, State.withOperands_op]
  split <;> rfl

/-! ### Nor does a step of a busy FCB (R212) -/

/-- A row that makes a `Send` makes a cycle step, a cycle frame's or a read's, each blind; the rows that carry an address
first put it into the sequencer's locals. -/
theorem exec_withOperands (o : Operands) (hi : (failureAddress s.cfg i).isSome = true) (h : exec i s = .next t) :
    exec i (s.withOperands o) = .next (t.withOperands o) := by
  cases i <;> simp only [failureAddress, Option.isSome_none, Bool.false_eq_true] at hi
  case resetReset j =>
    obtain ⟨c, hc⟩ : ∃ c, s.cfg.resetSeq[j.toNat]? = some c := by simpa [Option.isSome_iff_exists] using hi
    rw [exec_resetReset hc, Host.Outcome.next.injEq] at h
    rw [exec_resetReset (s := s.withOperands o) hc, OperandBlind.cycleStep, h]
  all_goals cases h
  case encRead | plainRead => exact congrArg Host.Outcome.next (OperandBlind.sendRead .readDone _ _ o s)
  case encCycleSub01 | encCycleProgram | plainCycle =>
    exact congrArg Host.Outcome.next (OperandBlind.sendCycle .cycleFrameSent _ _ o s)
  case programProgData pa pd =>
    exact congrArg Host.Outcome.next
      (OperandBlind.cycleStep .program 3 ⟨pa, pd⟩ o { s with locAddr := pa.setWidth 32, locVal := pd })
  case eraseSectorErase sa =>
    exact congrArg Host.Outcome.next
      (OperandBlind.cycleStep .erase 5 ⟨sa, eraseTerminator⟩ o { s with locAddr := sa.setWidth 32 })
  all_goals exact congrArg Host.Outcome.next (OperandBlind.cycleStep _ _ _ o s)

/-- Settles O49: a busy FCB makes one `Send` or completes, and neither sees the operand registers. -/
theorem operandRegistersAreNoHazard : Obligations.OperandRegistersAreNoHazard := by
  intro s t a0 a1 a2 a3 d hb h
  set o : Operands := ⟨a0, a1, a2, a3, d⟩
  change fcbStep (s.withOperands o) = .next (t.withOperands o)
  rcases fcbStep_cases (s := s) with ⟨i, hi, he⟩ | ⟨-, ht, he⟩ | ⟨-, -, -, he⟩ | ⟨_, _, hidle, -⟩ | ⟨hidle, -⟩
  · obtain ⟨hsend, -⟩ := sends_of_nextInstr hb hi
    rw [fcbStep_of_nextInstr ((s.withOperands_nextInstr o).trans hi)]
    exact exec_withOperands o hsend (he.symm.trans h)
  · rw [he, Host.Outcome.next.injEq] at h
    rw [fcbStep_of_complete (s := s.withOperands o) hb ht, OperandBlind.completion o s, h]
  · simp [he] at h
  · simp [hb] at hidle
  · simp [hb] at hidle

end Sys2Proof.Machine
